-- ==== Sys2Proof/Word.lean ====
section
/-!
DEFINITION. The word types of the block (00_scope R6, R8): every one of them is a bit vector because the spec
gives it a width and reads bits of it, or lets it wrap.
-/

namespace Sys2Proof

/-- A pulse-width sample: `W_PW = 16` bits, whole microseconds (R6, R12). -/
abbrev Sample := BitVec 16

/-- A reading of the free-running clock, or a deadline on it: `W_T = 32` bits (R6, R24, R109). -/
abbrev Time := BitVec 32

/-- The signed bucket-index register: `W_ID = 16` bits, two's complement (R6, R14). -/
abbrev BucketId := BitVec 16

/-- The master configuration word, format CFG (R40). -/
abbrev CfgWord := BitVec 6

/-- The payload of an Output Intensity transaction, a level 0 to 100 (R45). -/
abbrev Level := BitVec 7

/-- One Output Intensity transaction, format OUT (R45). -/
abbrev OutWord := BitVec 11

/-- One Input Capture command, format ICC (R46). -/
abbrev IccWord := BitVec 2

/-- A sequencer phase code, format PHASE (R47). -/
abbrev PhaseCode := BitVec 3

/-- The answer of the capability check, format CAP (R48). -/
abbrev CapWord := BitVec 2

end Sys2Proof
end

