-- ==== Sys2Proof/Config.lean ====
section
/-!
DEFINITION. What an implementation fixes (00_scope R5, R6, R7) and the free values the environment supplies
(R9). Parameters are a record; the values R6 leaves OPEN are opaque constants with no body (log 2), and so is
every answer of the environment that no stimulus script supplies (log 4).
-/

namespace Sys2Proof

/-- `FILTER_MODE`: which Debounce Filter strategy is active (R6, R59). -/
inductive FilterMode where
  | consensus
  | movingAverage
  deriving DecidableEq, Repr

/-- `TIMER_MODE`: one shared blink timer, or one per channel (R6, R24, R85). -/
inductive TimerMode where
  | shared
  | perChannel
  deriving DecidableEq, Repr

namespace Config

/-- `CONFIG_COUNT` (R6, fixed). -/
def configCount : Nat := 48

/-- `LEVEL_OFF` (R6, fixed). -/
def levelOff : Level := 0

/-- `LEVEL_ON` (R6, fixed). -/
def levelOn : Level := 20

/-- `LEVEL_HIGH` (R6, fixed). -/
def levelHigh : Level := 100

/-- `LEVEL_WRAP` (R6, fixed): the largest level the Output Intensity Peripheral takes. -/
def levelWrap : Level := 100

end Config

/-- The parameters of R6 that an implementation may set. -/
structure ParamRecord where
  /-- `RANGE_MIN`, microseconds. -/
  rangeMin : Sample
  /-- `RANGE_MAX`, microseconds. -/
  rangeMax : Sample
  /-- `FILTER_MODE`. -/
  filterMode : FilterMode
  /-- `CONSENSUS_M`, samples. -/
  consensusM : Nat
  /-- `MA_N`, samples (OPEN). -/
  maN : Nat
  /-- `CLAMP_ID`. -/
  clampId : Bool
  /-- `TIMER_MODE`. -/
  timerMode : TimerMode
  /-- `BLINK_INTERVAL`, clock ticks (OPEN). -/
  blinkInterval : Time
  deriving DecidableEq, Repr

/-- R7, last clause: every `id_raw` of R66 fits a signed 16-bit register. The filtered width lies between 0 and
`2^16 - 1` microseconds, so the extreme indices are those of these two widths. -/
def ParamRecord.idFits (r : ParamRecord) : Bool :=
  decide (94 * (65535 - r.rangeMin.toNat) + (r.rangeMax.toNat - r.rangeMin.toNat)
    < 65536 * (r.rangeMax.toNat - r.rangeMin.toNat)) &&
  decide (94 * r.rangeMin.toNat < 65539 * (r.rangeMax.toNat - r.rangeMin.toNat))

/-- The constraints of R7. `RANGE_MIN ≥ 0` and `RANGE_MAX < 2^W_PW` hold by the fields' types. -/
def ParamRecord.legal (r : ParamRecord) : Bool :=
  decide (r.rangeMin.toNat < r.rangeMax.toNat) &&
  decide (1 ≤ r.consensusM) &&
  decide (1 ≤ r.maN) &&
  decide (0 < r.blinkInterval.toNat) &&
  decide (r.blinkInterval.toNat < 2147483648) &&
  r.idFits

/-- A configuration record that meets R7. No other can be built, which is how the model refuses one that breaks
a constraint (log 23). -/
structure Params extends ParamRecord where
  isLegal : toParamRecord.legal = true
  deriving DecidableEq, Repr

/-- The record, refused when it breaks a constraint of R7. -/
def Params.ofRecord (r : ParamRecord) : Option Params :=
  if h : r.legal = true then some ⟨r, h⟩ else none

namespace Config

/-- `MA_N - 1`, OPEN (R6, U12): any natural number (log 2). -/
opaque openMaN : Nat

/-- Selects `BLINK_INTERVAL` among the legal values, OPEN (R6, U12) (log 2). -/
opaque openBlinkInterval : Nat

/-- The capability answer of the `k`-th `CapCheck()`, when no script supplies it (R101) (log 4). -/
opaque freeCap : Nat → CapWord

/-- The high time the capture counter holds at the `k`-th period, when no script supplies it (R56) (log 4). -/
opaque freeSample : Nat → Sample

/-- The answer of the `k`-th `ReadClock()`, when no script supplies it (R109) (log 4). -/
opaque freeClock : Nat → Time

/-- The `k`-th `Draw(6)`, when no script supplies it (R9, R70) (log 4). -/
opaque freeDraw : Nat → CfgWord

/-- Whether `rst` is asserted in the `k`-th step, and after how many actions of the step's operation, when no script
supplies it (R116) (log 5). -/
opaque freeRst : Nat → Option Nat

/-- The record of R6: its values where it gives one (log 3), the two OPEN values opaque (log 2). Every legal
`BLINK_INTERVAL` is `1 + n mod (2^31 - 1)` for some `n`, and every legal `MA_N` is `n + 1` for some `n`. -/
def defaultRecord : ParamRecord where
  rangeMin := 1019
  rangeMax := 1971
  filterMode := .consensus
  consensusM := 4
  maN := openMaN + 1
  clampId := true
  timerMode := .shared
  blinkInterval := BitVec.ofNat 32 (openBlinkInterval % 2147483647 + 1)

theorem defaultRecord_legal : defaultRecord.legal = true := by
  have h : openBlinkInterval % 2147483647 < 2147483647 := Nat.mod_lt _ (by omega)
  have e : (openBlinkInterval % 2147483647 + 1) % 4294967296
      = openBlinkInterval % 2147483647 + 1 := Nat.mod_eq_of_lt (by omega)
  simp [defaultRecord, ParamRecord.legal, ParamRecord.idFits, BitVec.toNat_ofNat, e]
  omega

/-- The parameters of the machine `State.reset` is. -/
def params : Params := ⟨defaultRecord, defaultRecord_legal⟩

end Config

end Sys2Proof
end

