-- ==== Sys2Proof/Syntax.lean ====
section
/-!
DEFINITION. The syntax: channels, and the 25 operations of opcode_table.json, one constructor a row
(30_encoding R39 to R51).
-/

namespace Sys2Proof

/-- The six light channels (R44). -/
inductive Channel where
  /-- FrontWhite, `FW`, id 0. -/
  | frontWhite
  /-- FrontBlue, `FB`, id 1. -/
  | frontBlue
  /-- LeftBlinker, `L`, id 2. -/
  | left
  /-- RightBlinker, `R`, id 3. -/
  | right
  /-- Stop, `STOP`, id 4. -/
  | stop
  /-- Reverse, `REV`, id 5. -/
  | reverse
  deriving DecidableEq, Repr

/-- The four slots APPLY reads from the configuration word, in APPLY's order (R42, R74). -/
inductive Slot where
  | frontWhite
  | stop
  | reverse
  | blinkers
  deriving DecidableEq, Repr

/-- The operations of the block (R51): one constructor per row of opcode_table.json. -/
inductive Instr where
  /-- `INIT` (R96). -/
  | init
  /-- `SAMPLE` (R57). -/
  | sample
  /-- `FILTER.CS` (R60). -/
  | filterCs
  /-- `FILTER.MA` (R63). -/
  | filterMa
  /-- `DECODE` (R69). -/
  | decode
  /-- `APPLY` (R74). -/
  | apply
  /-- `HALT` (R100). -/
  | halt
  /-- `FW.HIGH` (R76). -/
  | fwHigh
  /-- `FW.ON` (R77). -/
  | fwOn
  /-- `FW.OFF` (R78). -/
  | fwOff
  /-- `STOP.HIGH` (R79). -/
  | stopHigh
  /-- `STOP.ON` (R80). -/
  | stopOn
  /-- `STOP.OFF` (R81). -/
  | stopOff
  /-- `REV.ON` (R82). -/
  | revOn
  /-- `REV.OFF` (R83). -/
  | revOff
  /-- `BLINK.NONE` (R90). -/
  | blinkNone
  /-- `BLINK.LEFT` (R91). -/
  | blinkLeft
  /-- `BLINK.RIGHT` (R92). -/
  | blinkRight
  /-- `BLINK.HAZARD` (R93). -/
  | blinkHazard
  /-- `OUT.LEVEL_OFF` (R45). -/
  | outLevelOff (c : Channel)
  /-- `OUT.LEVEL_ON` (R45). -/
  | outLevelOn (c : Channel)
  /-- `OUT.LEVEL_HIGH` (R45). -/
  | outLevelHigh (c : Channel)
  /-- `OUT.ENABLE` (R45). -/
  | outEnable (c : Channel) (e : Bool)
  /-- `IC.RESET` (R46). -/
  | icReset
  /-- `IC.ENABLE` (R46). -/
  | icEnable (e : Bool)
  deriving DecidableEq, Repr

/-- A code word together with the place it lives in (R39): the format is never in the bits (log 10). -/
inductive CodeWord where
  /-- Format PHASE, read from `PHASE`. -/
  | phase (w : PhaseCode)
  /-- Format CFG, read from `CFG` by one slot of APPLY. -/
  | sub (k : Slot) (w : CfgWord)
  /-- Format OUT, on the port `out_word`. -/
  | out (w : OutWord)
  /-- Format ICC, on the port `ic_cmd`. -/
  | icc (w : IccWord)
  deriving DecidableEq, Repr

end Sys2Proof
end

