-- ==== Sys2Proof/WellFormed.lean ====
section
/-!
DEFINITION. Which instructions a machine with a given `FILTER_MODE` has (30_encoding R47, 41_filter R59): the
phase code 2 names FILTER.CS under `consensus` and FILTER.MA under `moving_average`, and never the other. Every
other operation exists in every machine; the syntax has no ill-formed operand (channels 6 and 7 have no
constructor, R44).
-/

namespace Sys2Proof

/-- The strategy an instruction belongs to, where it belongs to one (R59). -/
def Instr.strategy : Instr → Option FilterMode
  | .filterCs => some .consensus
  | .filterMa => some .movingAverage
  | .init | .sample | .decode | .apply | .halt
  | .fwHigh | .fwOn | .fwOff | .stopHigh | .stopOn | .stopOff | .revOn | .revOff
  | .blinkNone | .blinkLeft | .blinkRight | .blinkHazard
  | .outLevelOff _ | .outLevelOn _ | .outLevelHigh _ | .outEnable _ _
  | .icReset | .icEnable _ => none

/-- The instruction exists in a machine whose `FILTER_MODE` is `mode`. -/
def Instr.wellFormed (mode : FilterMode) (i : Instr) : Bool :=
  match i.strategy with
  | none => true
  | some m => decide (m = mode)

end Sys2Proof
end

