-- ==== Sys2Proof/Decode.lean ====
section
/-!
DEFINITION. Decoding and encoding of the five formats (30_encoding R39 to R50). A code word carries its format,
because the place a word lives in says how it is read; the bits of one format overlap those of another (log 10).
-/

namespace Sys2Proof

/-! ### Codes -/

/-- The id of a channel (R44). -/
def Channel.id : Channel → BitVec 3
  | .frontWhite => 0
  | .frontBlue => 1
  | .left => 2
  | .right => 3
  | .stop => 4
  | .reverse => 5

/-- The channel an id names; 6 and 7 name none (R44, R50). -/
def Channel.ofId (w : BitVec 3) : Option Channel :=
  if w = 0 then some .frontWhite
  else if w = 1 then some .frontBlue
  else if w = 2 then some .left
  else if w = 3 then some .right
  else if w = 4 then some .stop
  else if w = 5 then some .reverse
  else none

/-! ### The fields of the configuration word (R40, R75) -/

/-- `CFG[0]`. -/
def cfgBrake (w : CfgWord) : Bool := w.getLsbD 0

/-- `CFG[1]`. -/
def cfgReverse (w : CfgWord) : Bool := w.getLsbD 1

/-- `CFG[3:2]`, `CFG[2]` its low bit. -/
def cfgBlink (w : CfgWord) : BitVec 2 := w.extractLsb' 2 2

/-- `CFG[4]`. -/
def cfgHighBeam (w : CfgWord) : Bool := w.getLsbD 4

/-- `CFG[5]`. -/
def cfgDayNight (w : CfgWord) : Bool := w.getLsbD 5

/-! ### The decoder -/

/-- Why a word is rejected: it is one of the codes no rule covers (R50). -/
inductive DecodeError where
  /-- `PHASE` code 5 or 6 (R47). -/
  | reservedPhase
  /-- Channel id 6 or 7 of an OUT word (R44). -/
  | noChannel
  /-- A LEVEL payload other than 0, 20, 100 (R43, R45). -/
  | reservedLevel
  /-- An ENABLE payload above 1 (R45). -/
  | reservedEnable
  /-- The ICC word `0b01` (R46). -/
  | reservedIcc
  deriving DecidableEq, Repr

/-- Format PHASE (R47). -/
def decodePhase (mode : FilterMode) (w : PhaseCode) : Except DecodeError Instr :=
  if w = 0 then .ok .init
  else if w = 1 then .ok .sample
  else if w = 2 then
    match mode with
    | .consensus => .ok .filterCs
    | .movingAverage => .ok .filterMa
  else if w = 3 then .ok .decode
  else if w = 4 then .ok .apply
  else if w = 7 then .ok .halt
  else .error .reservedPhase

/-- The sub-operation one slot of APPLY selects (R42): total on the 64 words. -/
def decodeSlot (k : Slot) (w : CfgWord) : Instr :=
  match k with
  | .frontWhite =>
    if cfgHighBeam w then .fwHigh else if cfgDayNight w then .fwOn else .fwOff
  | .stop =>
    if cfgBrake w then .stopHigh else if cfgDayNight w then .stopOn else .stopOff
  | .reverse =>
    if cfgReverse w then .revOn else .revOff
  | .blinkers =>
    if cfgBlink w = 0 then .blinkNone
    else if cfgBlink w = 1 then .blinkLeft
    else if cfgBlink w = 2 then .blinkRight
    else .blinkHazard

/-- Format OUT (R45): bit 10 the kind, bits 9 to 7 the channel, bits 6 to 0 the payload. -/
def decodeOut (w : OutWord) : Except DecodeError Instr :=
  match Channel.ofId (w.extractLsb' 7 3) with
  | none => .error .noChannel
  | some c =>
    let payload : Level := w.extractLsb' 0 7
    if w.getLsbD 10 then
      if payload = 0 then .ok (.outEnable c false)
      else if payload = 1 then .ok (.outEnable c true)
      else .error .reservedEnable
    else
      if payload = Config.levelOff then .ok (.outLevelOff c)
      else if payload = Config.levelOn then .ok (.outLevelOn c)
      else if payload = Config.levelHigh then .ok (.outLevelHigh c)
      else .error .reservedLevel

/-- Format ICC (R46): bit 1 the operation, bit 0 the boolean of ENABLE. -/
def decodeIcc (w : IccWord) : Except DecodeError Instr :=
  if w.getLsbD 1 then .ok (.icEnable (w.getLsbD 0))
  else if w.getLsbD 0 then .error .reservedIcc
  else .ok .icReset

/-- The instruction a code word stands for in a machine with the given `FILTER_MODE`. -/
def decode (mode : FilterMode) : CodeWord → Except DecodeError Instr
  | .phase w => decodePhase mode w
  | .sub k w => .ok (decodeSlot k w)
  | .out w => decodeOut w
  | .icc w => decodeIcc w

/-! ### The encoder -/

/-- An OUT word from its three fields (R45). -/
def outWord (kind : Bool) (c : Channel) (payload : Level) : OutWord :=
  BitVec.ofBool kind ++ c.id ++ payload

/-- The boolean of an ENABLE as its payload (R45). -/
def enablePayload (e : Bool) : Level := if e then 1 else 0

/-- An ICC word from its two bits (R46). -/
def iccWord (op e : Bool) : IccWord := BitVec.ofBool op ++ BitVec.ofBool e

/-- The word of an instruction. A sub-operation's word is the table's match value, with 0 in every bit its slot
does not examine (R42). -/
def encode : Instr → CodeWord
  | .init => .phase 0
  | .sample => .phase 1
  | .filterCs => .phase 2
  | .filterMa => .phase 2
  | .decode => .phase 3
  | .apply => .phase 4
  | .halt => .phase 7
  | .fwHigh => .sub .frontWhite 0x10
  | .fwOn => .sub .frontWhite 0x20
  | .fwOff => .sub .frontWhite 0x00
  | .stopHigh => .sub .stop 0x01
  | .stopOn => .sub .stop 0x20
  | .stopOff => .sub .stop 0x00
  | .revOn => .sub .reverse 0x02
  | .revOff => .sub .reverse 0x00
  | .blinkNone => .sub .blinkers 0x00
  | .blinkLeft => .sub .blinkers 0x04
  | .blinkRight => .sub .blinkers 0x08
  | .blinkHazard => .sub .blinkers 0x0C
  | .outLevelOff c => .out (outWord false c Config.levelOff)
  | .outLevelOn c => .out (outWord false c Config.levelOn)
  | .outLevelHigh c => .out (outWord false c Config.levelHigh)
  | .outEnable c e => .out (outWord true c (enablePayload e))
  | .icReset => .icc (iccWord false false)
  | .icEnable e => .icc (iccWord true e)

/-- The bits a sub-operation's slot examines to select it (R42's mask); `none` for the other formats. -/
def subMask : Instr → Option CfgWord
  | .fwHigh => some 0x10
  | .fwOn => some 0x30
  | .fwOff => some 0x30
  | .stopHigh => some 0x01
  | .stopOn => some 0x21
  | .stopOff => some 0x21
  | .revOn => some 0x02
  | .revOff => some 0x02
  | .blinkNone => some 0x0C
  | .blinkLeft => some 0x0C
  | .blinkRight => some 0x0C
  | .blinkHazard => some 0x0C
  | .init | .sample | .filterCs | .filterMa | .decode | .apply | .halt
  | .outLevelOff _ | .outLevelOn _ | .outLevelHigh _ | .outEnable _ _
  | .icReset | .icEnable _ => none

/-! ### Words of opcode_table.json without their format (log 10) -/

/-- The first slot, in APPLY's order, whose selected sub-operation is not the one that turns its lights off; the
Blinkers slot when there is none. -/
def leadingSlot (w : CfgWord) : Slot :=
  if cfgHighBeam w || cfgDayNight w then .frontWhite
  else if cfgBrake w then .stop
  else if cfgReverse w then .reverse
  else .blinkers

/-- The code word that `w`, a word of `nbits` bits with no format named, is taken for. Exact widths name the
format. In whole bytes, 16 bits can only be OUT; 8 bits are taken for a PHASE code where there is one, since that
is what the sequencer reads, and for a CFG word otherwise. -/
def tableWord (nbits w : Nat) : Option CodeWord :=
  if nbits = 2 then (if w < 4 then some (.icc (BitVec.ofNat 2 w)) else none)
  else if nbits = 3 then (if w < 8 then some (.phase (BitVec.ofNat 3 w)) else none)
  else if nbits = 6 then
    (if w < 64 then some (.sub (leadingSlot (BitVec.ofNat 6 w)) (BitVec.ofNat 6 w)) else none)
  else if nbits = 8 then
    (if w < 5 ∨ w = 7 then some (.phase (BitVec.ofNat 3 w))
     else if w < 64 then some (.sub (leadingSlot (BitVec.ofNat 6 w)) (BitVec.ofNat 6 w))
     else none)
  else if nbits = 11 ∨ nbits = 16 then
    (if w < 2048 then some (.out (BitVec.ofNat 11 w)) else none)
  else none

/-- The instruction the decoder reads from a word of opcode_table.json, in the default machine
(`FILTER_MODE = consensus`). -/
def decodeTableWord (nbits w : Nat) : Option Instr :=
  match tableWord nbits w with
  | none => none
  | some cw =>
    match decode .consensus cw with
    | .ok i => some i
    | .error _ => none

end Sys2Proof
end

