-- ==== Sys2Proof/Machine/State.lean ====
section
/-!
DEFINITION. The state of the block (10_state), of the two peripherals as far as the block's commands set them
(60_exceptions R111, R112), of the environment's pending answers (log 4), and the reset state (70_reset R117).
-/

namespace Sys2Proof.Machine

/-- A LightState (R43). The code 3 has no constructor (R50). -/
inductive LightState where
  | off
  | on
  | high
  deriving DecidableEq, Repr

/-- The values of `PHASE` (R16, R47). The codes 5 and 6 have no constructor (R50). -/
inductive Phase where
  | init
  | sample
  | filter
  | decode
  | apply
  | halt
  deriving DecidableEq, Repr

/-- The values of `FAULT` (R17, R48). The code 3 has no constructor (R50). -/
inductive FaultCode where
  /-- 0, no fault. -/
  | none
  /-- 1, CLOCK_MISMATCH. -/
  | clockMismatch
  /-- 2, BINDING_MISMATCH. -/
  | bindingMismatch
  deriving DecidableEq, Repr

/-- One entry of the blink-timer file (R24): a deadline on the clock and the blink phase. -/
@[ext]
structure BlinkTimer where
  nextToggle : Time
  phaseOn : Bool
  deriving DecidableEq, Repr

/-- A register file with one entry per channel id 0 to 5 (R23, R24, R30). -/
@[ext]
structure ChannelFile (α : Type) where
  frontWhite : α
  frontBlue : α
  left : α
  right : α
  stop : α
  reverse : α
  deriving DecidableEq, Repr

/-- One event of the ghost trace (R26). -/
inductive Event where
  /-- The call `reset()` of the Input Capture Peripheral. -/
  | icReset
  /-- The call `enable(b)` of the Input Capture Peripheral. -/
  | icEnable (b : Bool)
  /-- The call `enable(c, b)` of the Output Intensity Peripheral. -/
  | outEnable (c : Channel) (b : Bool)
  /-- The call `setLevel(c, l)` of the Output Intensity Peripheral: a level write. -/
  | outLevel (c : Channel) (l : Level)
  deriving DecidableEq, Repr

/-- What the block's commands set in the two peripherals (R54, R111) (log 7). No operation of the block reads
it but SAMPLE, which reads the counter it has just run. -/
@[ext]
structure Devices where
  /-- The duty-cycle level of each output channel. -/
  level : ChannelFile Level
  /-- Whether each output channel is enabled. -/
  enabled : ChannelFile Bool
  /-- Whether the Input Capture Peripheral is accumulating. -/
  icEnabled : Bool
  /-- The high time the Input Capture Peripheral holds. -/
  icCount : Sample
  deriving DecidableEq, Repr

/-- The answers one input port will give (R52): those a stimulus script supplies, oldest first, and how many
answers the port has given so far. Behind an exhausted script stands a free value of Config (log 4). -/
structure Stream (α : Type) where
  answers : List α
  taken : Nat
  deriving DecidableEq, Repr

/-- The environment's side of the input ports (R27). -/
@[ext]
structure Env where
  /-- Port `rst` (R27, R116): for each coming step, `none` where it stays deasserted, and `some n` where it is asserted
  after the step's operation has taken `n` of its actions (log 5). -/
  rst : Stream (Option Nat)
  /-- Port `cap` (R101). -/
  cap : Stream CapWord
  /-- Port `ic_elapsed` (R56). -/
  icElapsed : Stream Sample
  /-- Port `now` (R109). -/
  now : Stream Time
  /-- `Draw(6)` (R9, R70). -/
  draw : Stream CfgWord
  deriving DecidableEq, Repr

/-- The machine. -/
@[ext]
structure State where
  /-- `PHASE` (R16). -/
  phase : Phase
  /-- `FAULT` (R17). -/
  fault : FaultCode
  /-- `RAW` (R12). -/
  raw : Sample
  /-- `WIDTH` (R13), in units of `1/D` microseconds. -/
  width : Nat
  /-- `ID` (R14), signed. -/
  id : BucketId
  /-- `CFG` (R15). -/
  cfg : CfgWord
  /-- `CS_BUF` (R18). -/
  csBuf : List Sample
  /-- `CS_IDX` (R19). -/
  csIdx : Nat
  /-- `STABLE` (R20). -/
  stable : Sample
  /-- `MA_BUF` (R21). -/
  maBuf : List Sample
  /-- `MA_IDX` (R21). -/
  maIdx : Nat
  /-- `MA_SUM` (R22). -/
  maSum : Nat
  /-- `LS[0..5]` (R23). -/
  ls : ChannelFile LightState
  /-- `BT[0..NT-1]` (R24); the timer index is a channel id, and under `shared` only entry 0 is used (log 13). -/
  bt : ChannelFile BlinkTimer
  /-- `EV` (R26), oldest first. -/
  ev : List Event
  /-- The peripherals (log 7). -/
  dev : Devices
  /-- The environment's pending answers (log 4, log 5). -/
  env : Env
  /-- The parameters (R5, R6), which nothing changes (log 1). -/
  par : Params
  /-- The model's own latch of one directly issued word (log 9). -/
  issue : Option CodeWord
  deriving DecidableEq, Repr

/-- Why the model stops with a fault. -/
inductive Fault where
  /-- Raised by FILTER.CS and FILTER.MA in a state where their ring's index or size names a word that does not
  exist (R29). Safe: no state of a run from reset is such a state (log 12). -/
  | outsideRing
  deriving DecidableEq, Repr

/-- Why the model refuses a step. -/
inductive Refusal where
  /-- An arm of exec whose instruction has no meaning yet. Safe. No arm uses it. -/
  | notModelled (mnemonic : String)
  /-- The step's word is a code no rule covers (R50): the block would be stuck (U6). Safe: no run from reset
  reads one (log 11). -/
  | noRule (e : DecodeError)
  deriving DecidableEq, Repr

/-- The same value in every entry of a register file. -/
def ChannelFile.all {α : Type} (v : α) : ChannelFile α := ⟨v, v, v, v, v, v⟩

/-- The reset value of a blink timer (R24, R117). -/
def BlinkTimer.reset : BlinkTimer := ⟨0, false⟩

/-- The peripherals as the model's reset state has them (log 7): R121 asks for level 0. -/
def Devices.quiet : Devices := ⟨ChannelFile.all 0, ChannelFile.all false, false, 0⟩

/-- An environment with no script: every answer is a free value, that of `rst` too (log 4, log 5). -/
def Env.unscripted : Env := ⟨⟨[], 0⟩, ⟨[], 0⟩, ⟨[], 0⟩, ⟨[], 0⟩, ⟨[], 0⟩⟩

/-- The block at the reset values of R117, for a configuration record, between given peripherals and a given
environment. -/
def State.resetWith (p : Params) (d : Devices) (e : Env) : State where
  phase := .init
  fault := .none
  raw := 0
  width := 0
  id := 0
  cfg := 0
  csBuf := List.replicate p.consensusM 0
  csIdx := 0
  stable := 0
  maBuf := List.replicate p.maN 0
  maIdx := 0
  maSum := 0
  ls := ChannelFile.all .off
  bt := ChannelFile.all BlinkTimer.reset
  ev := []
  dev := d
  env := e
  par := p
  issue := none

/-- The machine right after reset (R117), with the parameters of R6 and no stimulus script. -/
def State.reset : State := State.resetWith Config.params Devices.quiet Env.unscripted

end Sys2Proof.Machine
end

