-- ==== Sys2Proof/Machine/Operands.lean ====
section
/-!
DEFINITION. The codes of the registers (30_encoding R43, R47, R48), the words the events drive on the ports
(R45, R46), timer selection (43_rule_engine R85), and the decoder's arithmetic (42_decoder R66 to R70).
-/

namespace Sys2Proof.Machine

/-! ### Codes -/

/-- The `PHASE` code of a phase (R47). -/
def Phase.code : Phase → PhaseCode
  | .init => 0
  | .sample => 1
  | .filter => 2
  | .decode => 3
  | .apply => 4
  | .halt => 7

/-- The phase a code names (R47). -/
def Phase.ofCode (w : PhaseCode) : Option Phase :=
  if w = 0 then some .init
  else if w = 1 then some .sample
  else if w = 2 then some .filter
  else if w = 3 then some .decode
  else if w = 4 then some .apply
  else if w = 7 then some .halt
  else none

/-- The `FAULT` code of a cause (R48). -/
def FaultCode.code : FaultCode → BitVec 2
  | .none => 0
  | .clockMismatch => 1
  | .bindingMismatch => 2

/-- The 2-bit code of a LightState (R43). -/
def LightState.code : LightState → BitVec 2
  | .off => 0
  | .on => 1
  | .high => 2

/-- `level(s)`: the duty-cycle level of a LightState (R43). -/
def LightState.level : LightState → Level
  | .off => Config.levelOff
  | .on => Config.levelOn
  | .high => Config.levelHigh

/-- The word an event drives on its port, with the format of that port (R45, R46). -/
def Event.word : Event → CodeWord
  | .icReset => .icc (iccWord false false)
  | .icEnable b => .icc (iccWord true b)
  | .outEnable c b => .out (outWord true c (enablePayload b))
  | .outLevel c l => .out (outWord false c l)

/-- The event is a level write (R26). -/
def Event.isLevelWrite : Event → Bool
  | .outLevel _ _ => true
  | .icReset | .icEnable _ | .outEnable _ _ => false

/-- `tsel(c)` (R24, R85): the timer entry a channel uses. -/
def tsel (mode : TimerMode) (c : Channel) : Channel :=
  match mode with
  | .shared => .frontWhite
  | .perChannel => c

/-! ### The bucket index (R66) -/

/-- The denominator `D` of `WIDTH` (R13). -/
def denominator (p : Params) : Nat :=
  match p.filterMode with
  | .consensus => 1
  | .movingAverage => p.maN

/-- `SPAN = RANGE_MAX - RANGE_MIN` (R66). -/
def span (p : Params) : Int := (p.rangeMax.toNat : Int) - (p.rangeMin.toNat : Int)

/-- `num` of R66. -/
def idNum (p : Params) (width : Nat) : Int :=
  2 * ((Config.configCount : Int) - 1) * ((width : Int) - (denominator p : Int) * (p.rangeMin.toNat : Int))
    + (denominator p : Int) * span p

/-- `den` of R66. -/
def idDen (p : Params) : Int := 2 * (denominator p : Int) * span p

/-- `trunc0(n / d)` (R8): the quotient rounded toward zero. -/
def trunc0 (n d : Int) : Int := Int.tdiv n d

/-- `id_raw` (R66). -/
def idRaw (p : Params) (width : Nat) : Int := trunc0 (idNum p width) (idDen p)

/-- `clamp(v, lo, hi)` (R8). -/
def clamp (v lo hi : Int) : Int := if v < lo then lo else if hi < v then hi else v

/-- The index that is packed (R67). -/
def idPacked (p : Params) (idx : Int) : Int :=
  if p.clampId then clamp idx 0 ((Config.configCount : Int) - 1) else idx

/-- The packing of a non-negative index, low six bits (R41, R68, R70). -/
def pack (idx : Nat) : CfgWord := BitVec.ofNat 6 ((idx % 3) ||| ((idx / 3) <<< 2))

end Sys2Proof.Machine
end

