-- ==== Sys2Proof/Machine/Flags.lean ====
section
/-!
DEFINITION. The block's only flags are the blink phases `BT[t].phaseOn` (10_state R25); their one computation is
the evaluation of a blink timer (43_rule_engine R88, R89).
-/

namespace Sys2Proof.Machine

/-- `reached(now, d)` (R89): the deadline is at or behind the reading by less than half the clock's range. -/
def reached (now d : Time) : Bool := decide ((now - d).toNat < 2147483648)

/-- The timer after one evaluation at the reading `now` (R88). The new deadline counts from the reading. -/
def BlinkTimer.eval (interval now : Time) (t : BlinkTimer) : BlinkTimer :=
  if reached now t.nextToggle then ⟨now + interval, !t.phaseOn⟩ else t

end Sys2Proof.Machine
end

