-- ==== Sys2Proof/Machine/Ops.lean ====
section
/-!
DEFINITION. The named operations: the register files, the ring buffers (20_memory R29), the environment
primitives of 00_scope R9, the sequencer's transition, taking the one exception (60_exceptions R102) and reset
(70_reset R116).
-/

namespace Sys2Proof.Machine

/-! ### Operations as actions (R35) -/

/-- One action of an operation: what a line of its pseudocode does. None drives a peripheral or reads the environment
more than once, so a reset can fall between any two of those (R116). -/
abbrev Action := State → State

/-- Take actions, first the head. -/
def perform : List Action → State → State
  | [], s => s
  | a :: as, s => perform as (a s)

/-! ### Register files (R23, R24, R30) -/

/-- Read the entry of a channel. -/
def ChannelFile.get {α : Type} (f : ChannelFile α) : Channel → α
  | .frontWhite => f.frontWhite
  | .frontBlue => f.frontBlue
  | .left => f.left
  | .right => f.right
  | .stop => f.stop
  | .reverse => f.reverse

/-- Write the entry of a channel. -/
def ChannelFile.set {α : Type} (f : ChannelFile α) (c : Channel) (v : α) : ChannelFile α :=
  match c with
  | .frontWhite => { f with frontWhite := v }
  | .frontBlue => { f with frontBlue := v }
  | .left => { f with left := v }
  | .right => { f with right := v }
  | .stop => { f with stop := v }
  | .reverse => { f with reverse := v }

/-- `LS[c] <- v`. -/
def setLight (c : Channel) (v : LightState) (s : State) : State := { s with ls := s.ls.set c v }

/-- `BT[t] <- v`. -/
def setTimer (t : Channel) (v : BlinkTimer) (s : State) : State := { s with bt := s.bt.set t v }

/-- `PHASE <- p` (R9, R95). -/
def goto (p : Phase) (s : State) : State := { s with phase := p }

/-! ### The ring buffers (R18, R21, R29) -/

/-- The two storage spaces (R29). -/
inductive Space where
  | cs
  | ma
  deriving DecidableEq, Repr

/-- The words of a space. -/
def ringOf (sp : Space) (s : State) : List Sample :=
  match sp with
  | .cs => s.csBuf
  | .ma => s.maBuf

/-- The index register of a space. -/
def ringIdx (sp : Space) (s : State) : Nat :=
  match sp with
  | .cs => s.csIdx
  | .ma => s.maIdx

/-- How many words a space has, by the parameters. -/
def ringSize (sp : Space) (p : Params) : Nat :=
  match sp with
  | .cs => p.consensusM
  | .ma => p.maN

/-- Every access a FILTER operation makes to the space is to a word that exists (R29): the array has its size
and the index register lies inside it. -/
def ringOk (sp : Space) (s : State) : Bool :=
  decide ((ringOf sp s).length = ringSize sp s.par) && decide (ringIdx sp s < ringSize sp s.par)

/-- The canonical form of the storage: both spaces are as `ringOk` says. -/
def Memory.wf (s : State) : Bool := ringOk .cs s && ringOk .ma s

/-- `MemRead((sp, i), 1)`, for an index inside the space (R29). -/
def memRead (sp : Space) (i : Nat) (s : State) : Sample := (ringOf sp s).getD i 0

/-- `MemWrite((sp, i), 1, v)`, for an index inside the space (R29). -/
def memWrite (sp : Space) (i : Nat) (v : Sample) (s : State) : State :=
  match sp with
  | .cs => { s with csBuf := s.csBuf.set i v }
  | .ma => { s with maBuf := s.maBuf.set i v }

/-- Advance the index register of a space modulo its size (R19, R21). -/
def advanceIdx (sp : Space) (s : State) : State :=
  match sp with
  | .cs => { s with csIdx := (s.csIdx + 1) % s.par.consensusM }
  | .ma => { s with maIdx := (s.maIdx + 1) % s.par.maN }

/-! ### The input ports (R27, R34) -/

/-- The next answer of a port: the script's, or a free value where no script is left (log 4). -/
def Stream.next {α : Type} (free : Nat → α) (q : Stream α) : α :=
  match q.answers with
  | [] => free q.taken
  | a :: _ => a

/-- The port after it has answered once. -/
def Stream.advance {α : Type} (q : Stream α) : Stream α := ⟨q.answers.tail, q.taken + 1⟩

/-- Whether `rst` is asserted in the coming step, and after how many actions (R116). -/
def State.rstAnswer (s : State) : Option Nat := s.env.rst.next Config.freeRst

/-- What `CapCheck()` will answer (R101). -/
def State.capAnswer (s : State) : CapWord := s.env.cap.next Config.freeCap

/-- What the capture counter will hold at the end of the next period (R56). -/
def State.sampleAnswer (s : State) : Sample := s.env.icElapsed.next Config.freeSample

/-- What `ReadClock()` will answer (R109). -/
def State.clockAnswer (s : State) : Time := s.env.now.next Config.freeClock

/-- What `Draw(6)` will answer (R9). -/
def State.drawAnswer (s : State) : CfgWord := s.env.draw.next Config.freeDraw

/-- `rst` has been sampled for one step. -/
def tookRst (s : State) : State := { s with env := { s.env with rst := s.env.rst.advance } }

/-- `CapCheck()` has answered. -/
def tookCap (s : State) : State := { s with env := { s.env with cap := s.env.cap.advance } }

/-- The period's high time has been taken. -/
def tookSample (s : State) : State := { s with env := { s.env with icElapsed := s.env.icElapsed.advance } }

/-- `ReadClock()` has answered. -/
def tookClock (s : State) : State := { s with env := { s.env with now := s.env.now.advance } }

/-- `Draw(6)` has answered. -/
def tookDraw (s : State) : State := { s with env := { s.env with draw := s.env.draw.advance } }

/-! ### The peripherals' primitives (R54 to R56, R111) -/

/-- Append one event to `EV` (R26). -/
def emit (e : Event) (s : State) : State := { s with ev := s.ev ++ [e] }

/-- `IcReset()` (R54). -/
def icReset (s : State) : State :=
  emit .icReset { s with dev := { s.dev with icCount := 0 } }

/-- `IcEnable(b)` (R54). -/
def icEnable (b : Bool) (s : State) : State :=
  emit (.icEnable b) { s with dev := { s.dev with icEnabled := b } }

/-- `WaitPeriod()` (R55): no effect on the block; an enabled capture counter ends the period at the next high
time the environment gives (log 8). -/
def waitPeriod (s : State) : State :=
  if s.dev.icEnabled then
    tookSample { s with dev := { s.dev with icCount := s.sampleAnswer } }
  else s

/-- `IcRead()` (R56): the high time the capture counter holds. -/
def icRead (s : State) : Sample := s.dev.icCount

/-- `OutLevel(c, l)` (R111). -/
def outLevel (c : Channel) (l : Level) (s : State) : State :=
  emit (.outLevel c l) { s with dev := { s.dev with level := s.dev.level.set c l } }

/-- `OutEnable(c, b)` (R111). -/
def outEnable (c : Channel) (b : Bool) (s : State) : State :=
  emit (.outEnable c b) { s with dev := { s.dev with enabled := s.dev.enabled.set c b } }

/-! ### The channel primitives (R86 to R88) -/

/-- `TURN(c, v)` (R86). -/
def turn (c : Channel) (v : LightState) (s : State) : State :=
  if s.ls.get c = v then s else outLevel c v.level (setLight c v s)

/-- `BLINK_DRIVE(c, p)` (R87). -/
def blinkDrive (c : Channel) (p : Bool) (s : State) : State :=
  if p then turn c .on s
  else if s.ls.get c = .on then turn c .off s
  else s

/-- BLINK_DRIVE with the phase of a timer that has been evaluated (R87, R88). -/
def driveBy (c t : Channel) (s : State) : State := blinkDrive c (s.bt.get t).phaseOn s

/-- The state after `BLINK_EVAL(t)` (R88): one clock reading, and the timer evaluated at it. -/
def blinkEval (t : Channel) (s : State) : State :=
  setTimer t ((s.bt.get t).eval s.par.blinkInterval s.clockAnswer) (tookClock s)

/-- `BLINK(c)` (R51): evaluate the channel's timer and drive the channel with the phase it returns, the value
after the possible flip. -/
def blinkActions (mode : TimerMode) (c : Channel) : List Action :=
  [blinkEval (tsel mode c), driveBy c (tsel mode c)]

/-! ### The exception and reset (R102, R106, R107, R108, R116) -/

/-- The cause recorded for a failed capability answer (R102, R106): the clock mismatch wins. -/
def faultCause (r : CapWord) : FaultCode :=
  if r.getLsbD 0 then .clockMismatch else .bindingMismatch

/-- `raise FatalConfigMismatch(r)` (R102, R107): the cause is recorded, control goes to HALT, and nothing else
changes. There is no return from it (R108): only `applyReset` leaves HALT. -/
def raiseFatal (r : CapWord) (s : State) : State := goto .halt { s with fault := faultCause r }

/-- Reset (R116): every register of the block at its reset value and `EV` empty; the peripherals and the
environment are untouched, and the parameters are what they were built to be. -/
def applyReset (s : State) : State := State.resetWith s.par s.dev s.env

end Sys2Proof.Machine
end

