-- ==== Sys2Proof/Machine/Decoder.lean ====
section
/-! DEFINITION. The Configuration Decoder (42_decoder). -/

namespace Sys2Proof.Machine

/-- `CFG` from the index that is packed: the packing for an index of 0 or more (R68, R70), a draw for a negative
one, which only an unclamped decoder meets (R70). -/
def writeCfg (idx : Int) (s : State) : State :=
  if 0 ≤ idx then { s with cfg := pack idx.toNat }
  else { tookDraw s with cfg := s.drawAnswer }

/-- `ID <- id_raw` (R14, R69). -/
def writeId (idx : Int) (s : State) : State := { s with id := BitVec.ofInt 16 idx }

/-- `DECODE` (R69). -/
def decodeActions (s : State) : List Action :=
  [writeId (idRaw s.par s.width), writeCfg (idPacked s.par (idRaw s.par s.width)), goto .apply]

/-- `DECODE` (R69). -/
def execDecode (s : State) : Host.Outcome State Fault Refusal := .next (perform (decodeActions s) s)

end Sys2Proof.Machine
end

