-- ==== Sys2Proof/Machine/Fetch.lean ====
section
/-!
DEFINITION. Where a step's word comes from: `PHASE` (10_state R16, 44_control_loop R95), unless the model's own
latch holds a word to be issued alone (log 9); and what a step takes before it runs the word.
-/

namespace Sys2Proof.Machine

/-- The word the step runs. -/
def fetch (s : State) : CodeWord :=
  match s.issue with
  | some w => w
  | none => .phase s.phase.code

/-- The state the fetched word runs on: `rst` sampled, the latch emptied. -/
def fetched (s : State) : State := { tookRst s with issue := none }

/-- `PHASE` or the latch set so that the next fetch reads the code word. -/
def placeWord (w : CodeWord) (s : State) : State :=
  match w with
  | .phase c =>
    match Phase.ofCode c with
    | some p => { s with phase := p, issue := none }
    | none => { s with issue := some w }
  | .sub _ _ | .out _ | .icc _ => { s with issue := some w }

/-- `rst` scripted as deasserted in the next step; nothing changes where the script says so already. -/
def deassertRst (s : State) : State :=
  match s.env.rst.answers with
  | none :: _ => s
  | _ => { s with env := { s.env with rst := { s.env.rst with answers := none :: s.env.rst.answers } } }

end Sys2Proof.Machine
end

