-- ==== Sys2Proof/Machine/Filter.lean ====
section
/-! DEFINITION. The Debounce Filter (41_filter). -/

namespace Sys2Proof.Machine

/-- The new sample stored at the index of a space, and the index advanced (R60, R63). -/
def pushRaw (sp : Space) (s : State) : State :=
  advanceIdx sp (memWrite sp (ringIdx sp s) s.raw s)

/-- Every word of the consensus buffer equals `RAW` (R60, R62: exact equality). -/
def consensus (s : State) : Bool :=
  (List.range s.par.consensusM).all (fun i => memRead .cs i s == s.raw)

/-- `STABLE` adopts `RAW` when it differs and the whole window agrees (R60). -/
def adopt (s : State) : State :=
  if s.raw ≠ s.stable ∧ consensus s = true then { s with stable := s.raw } else s

/-- `FILTER.CS` where every word it touches exists (R60). -/
def filterCs (s : State) : State :=
  goto .decode { adopt (pushRaw .cs s) with width := (adopt (pushRaw .cs s)).stable.toNat }

/-- `FILTER.CS` (R60). -/
def execFilterCs (s : State) : Host.Outcome State Fault Refusal :=
  if ringOk .cs s = true then .next (filterCs s) else .fault .outsideRing

/-- `MA_SUM <- MA_SUM - evicted + RAW` (R63). -/
def newSum (s : State) : Nat := s.maSum - (memRead .ma s.maIdx s).toNat + s.raw.toNat

/-- `FILTER.MA` where every word it touches exists (R63). -/
def filterMa (s : State) : State :=
  goto .decode { pushRaw .ma s with maSum := newSum s, width := newSum s }

/-- `FILTER.MA` (R63). -/
def execFilterMa (s : State) : Host.Outcome State Fault Refusal :=
  if ringOk .ma s = true then .next (filterMa s) else .fault .outsideRing

end Sys2Proof.Machine
end

