-- ==== Sys2Proof/Machine/Ports.lean ====
section
/-!
DEFINITION. The port words as operations (30_encoding R45, R46): the commands the block drives, each one call of a
peripheral (40_sampler R54, 60_exceptions R111). In a run they occur inside INIT, SAMPLE and APPLY; alone they
leave every register of the block as it is (log 25).
-/

namespace Sys2Proof.Machine

/-- `OUT.LEVEL_OFF` (R45, R111). -/
def execOutLevelOff (c : Channel) (s : State) : Host.Outcome State Fault Refusal :=
  .next (outLevel c Config.levelOff s)

/-- `OUT.LEVEL_ON` (R45, R111). -/
def execOutLevelOn (c : Channel) (s : State) : Host.Outcome State Fault Refusal :=
  .next (outLevel c Config.levelOn s)

/-- `OUT.LEVEL_HIGH` (R45, R111). -/
def execOutLevelHigh (c : Channel) (s : State) : Host.Outcome State Fault Refusal :=
  .next (outLevel c Config.levelHigh s)

/-- `OUT.ENABLE` (R45, R111). -/
def execOutEnable (c : Channel) (e : Bool) (s : State) : Host.Outcome State Fault Refusal :=
  .next (outEnable c e s)

/-- `IC.RESET` (R46, R54). -/
def execIcReset (s : State) : Host.Outcome State Fault Refusal := .next (icReset s)

/-- `IC.ENABLE` (R46, R54). -/
def execIcEnable (e : Bool) (s : State) : Host.Outcome State Fault Refusal := .next (icEnable e s)

end Sys2Proof.Machine
end

