-- ==== Sys2Proof/Machine/RuleEngine.lean ====
section
/-!
DEFINITION. The Light Rule Engine (43_rule_engine): the twelve sub-operations and APPLY, which runs the four that
the configuration word selects. A sub-operation executed alone leaves `PHASE` as it is (log 25).
-/

namespace Sys2Proof.Machine

/-! ### FrontWhite slot -/

/-- `FW.HIGH` (R76). -/
def fwHigh (s : State) : State := turn .frontWhite .high s

/-- `FW.ON` (R77). -/
def fwOn (s : State) : State := turn .frontWhite .on s

/-- `FW.OFF` (R78). -/
def fwOff (s : State) : State := turn .frontWhite .off s

/-! ### Stop slot -/

/-- `STOP.HIGH` (R79). -/
def stopHigh (s : State) : State := turn .stop .high s

/-- `STOP.ON` (R80). -/
def stopOn (s : State) : State := turn .stop .on s

/-- `STOP.OFF` (R81). -/
def stopOff (s : State) : State := turn .stop .off s

/-! ### Reverse slot -/

/-- `REV.ON` (R82). -/
def revOn (s : State) : State := turn .reverse .on s

/-- `REV.OFF` (R83). -/
def revOff (s : State) : State := turn .reverse .off s

/-! ### Blinkers slot -/

/-- `BLINK.NONE` (R90): no timer is evaluated and the clock is not read. -/
def blinkNoneActions : List Action := [turn .left .off, turn .right .off]

/-- `BLINK.LEFT` (R91). -/
def blinkLeftActions (mode : TimerMode) : List Action := blinkActions mode .left ++ [turn .right .off]

/-- `BLINK.RIGHT` (R92). -/
def blinkRightActions (mode : TimerMode) : List Action := blinkActions mode .right ++ [turn .left .off]

/-- `BLINK.HAZARD` (R93): under `shared` one evaluation of entry 0 and one decision, which no drive changes, for both
channels; under `per_channel` each channel by its own timer and its own reading. -/
def blinkHazardActions (mode : TimerMode) : List Action :=
  match mode with
  | .shared => [blinkEval .frontWhite, driveBy .left .frontWhite, driveBy .right .frontWhite]
  | .perChannel => blinkActions .perChannel .left ++ blinkActions .perChannel .right

/-! ### APPLY -/

/-- The FrontWhite slot (R74, R76 to R78). -/
def applyFrontWhite (w : CfgWord) (s : State) : State :=
  if cfgHighBeam w then fwHigh s else if cfgDayNight w then fwOn s else fwOff s

/-- The Stop slot (R74, R79 to R81). -/
def applyStop (w : CfgWord) (s : State) : State :=
  if cfgBrake w then stopHigh s else if cfgDayNight w then stopOn s else stopOff s

/-- The Reverse slot (R74, R82, R83). -/
def applyReverse (w : CfgWord) (s : State) : State :=
  if cfgReverse w then revOn s else revOff s

/-- The Blinkers slot (R74, R90 to R93). -/
def blinkersActions (w : CfgWord) (mode : TimerMode) : List Action :=
  if cfgBlink w = 0 then blinkNoneActions
  else if cfgBlink w = 1 then blinkLeftActions mode
  else if cfgBlink w = 2 then blinkRightActions mode
  else blinkHazardActions mode

/-- The four slots, in order (R74). -/
def slotActions (w : CfgWord) (mode : TimerMode) : List Action :=
  [applyFrontWhite w, applyStop w, applyReverse w] ++ blinkersActions w mode

/-- `APPLY` (R74). -/
def applyActions (s : State) : List Action := slotActions s.cfg s.par.timerMode ++ [goto .sample]

/-! ### The meanings -/

/-- `APPLY` (R74). -/
def execApply (s : State) : Host.Outcome State Fault Refusal := .next (perform (applyActions s) s)

/-- `FW.HIGH` (R76). -/
def execFwHigh (s : State) : Host.Outcome State Fault Refusal := .next (fwHigh s)

/-- `FW.ON` (R77). -/
def execFwOn (s : State) : Host.Outcome State Fault Refusal := .next (fwOn s)

/-- `FW.OFF` (R78). -/
def execFwOff (s : State) : Host.Outcome State Fault Refusal := .next (fwOff s)

/-- `STOP.HIGH` (R79). -/
def execStopHigh (s : State) : Host.Outcome State Fault Refusal := .next (stopHigh s)

/-- `STOP.ON` (R80). -/
def execStopOn (s : State) : Host.Outcome State Fault Refusal := .next (stopOn s)

/-- `STOP.OFF` (R81). -/
def execStopOff (s : State) : Host.Outcome State Fault Refusal := .next (stopOff s)

/-- `REV.ON` (R82). -/
def execRevOn (s : State) : Host.Outcome State Fault Refusal := .next (revOn s)

/-- `REV.OFF` (R83). -/
def execRevOff (s : State) : Host.Outcome State Fault Refusal := .next (revOff s)

/-- `BLINK.NONE` (R90). -/
def execBlinkNone (s : State) : Host.Outcome State Fault Refusal :=
  .next (perform blinkNoneActions s)

/-- `BLINK.LEFT` (R91). -/
def execBlinkLeft (s : State) : Host.Outcome State Fault Refusal :=
  .next (perform (blinkLeftActions s.par.timerMode) s)

/-- `BLINK.RIGHT` (R92). -/
def execBlinkRight (s : State) : Host.Outcome State Fault Refusal :=
  .next (perform (blinkRightActions s.par.timerMode) s)

/-- `BLINK.HAZARD` (R93). -/
def execBlinkHazard (s : State) : Host.Outcome State Fault Refusal :=
  .next (perform (blinkHazardActions s.par.timerMode) s)

end Sys2Proof.Machine
end

