-- ==== Sys2Proof/Machine/Sampler.lean ====
section
/-! DEFINITION. The Pulse Sampler (40_sampler). -/

namespace Sys2Proof.Machine

/-- `RAW <- IcRead()` (R57). -/
def readRaw (s : State) : State := { s with raw := icRead s }

/-- `SAMPLE` (R57). -/
def sampleActions : List Action :=
  [icReset, icEnable true, waitPeriod, icEnable false, readRaw, goto .filter]

/-- `SAMPLE` (R57). -/
def execSample (s : State) : Host.Outcome State Fault Refusal := .next (perform sampleActions s)

end Sys2Proof.Machine
end

