-- ==== Sys2Proof/Machine/Sequencer.lean ====
section
/-! DEFINITION. The sequencer's own operations, INIT and HALT (44_control_loop). -/

namespace Sys2Proof.Machine

/-- Enable the six output channels, in ascending order (R96). -/
def enableActions : List Action :=
  [outEnable .frontWhite true, outEnable .frontBlue true, outEnable .left true, outEnable .right true,
    outEnable .stop true, outEnable .reverse true]

/-- `INIT` (R96): the capability check comes first, and a failed one raises the exception. -/
def initActions (s : State) : List Action :=
  if s.capAnswer = 0 then tookCap :: (enableActions ++ [turn .frontBlue .on, goto .sample])
  else [tookCap, raiseFatal s.capAnswer]

/-- `INIT` (R96). -/
def execInit (s : State) : Host.Outcome State Fault Refusal := .next (perform (initActions s) s)

/-- `HALT` (R100): it changes no state, and `PHASE` stays HALT. -/
def execHalt (s : State) : Host.Outcome State Fault Refusal := .next s

end Sys2Proof.Machine
end

