-- ==== Sys2Proof/Machine/Actions.lean ====
section
/-!
DEFINITION. Every operation as the list of its actions, in the order of its pseudocode (20_memory R35), and a reset that
arrives inside an operation (70_reset R116).
-/

namespace Sys2Proof.Machine

/-- The actions of an operation executed in a state. -/
def actions (i : Instr) (s : State) : List Action :=
  match i with
  | .init => initActions s
  | .sample => sampleActions
  | .filterCs => [filterCs]
  | .filterMa => [filterMa]
  | .decode => decodeActions s
  | .apply => applyActions s
  | .halt => []
  | .fwHigh => [fwHigh]
  | .fwOn => [fwOn]
  | .fwOff => [fwOff]
  | .stopHigh => [stopHigh]
  | .stopOn => [stopOn]
  | .stopOff => [stopOff]
  | .revOn => [revOn]
  | .revOff => [revOff]
  | .blinkNone => blinkNoneActions
  | .blinkLeft => blinkLeftActions s.par.timerMode
  | .blinkRight => blinkRightActions s.par.timerMode
  | .blinkHazard => blinkHazardActions s.par.timerMode
  | .outLevelOff c => [outLevel c Config.levelOff]
  | .outLevelOn c => [outLevel c Config.levelOn]
  | .outLevelHigh c => [outLevel c Config.levelHigh]
  | .outEnable c e => [outEnable c e]
  | .icReset => [icReset]
  | .icEnable e => [icEnable e]

/-- The actions of the operation the step would run; none where its word is a code no rule covers (R50). -/
def pendingActions (s : State) : List Action :=
  match decode s.par.filterMode (fetch s) with
  | .ok i => actions i (fetched s)
  | .error _ => []

/-- Reset after the first `n` actions of the operation: every register at its reset value, and the peripherals and the
environment as those actions left them (R116). -/
def resetInside (n : Nat) (s : State) : State := applyReset (perform ((pendingActions s).take n) (fetched s))

end Sys2Proof.Machine
end

