-- ==== Sys2Proof/Machine/Dispatch.lean ====
section
/-! DEFINITION. One arm per row of opcode_table.json. -/

namespace Sys2Proof.Machine

def exec (i : Instr) (s : State) : Host.Outcome State Fault Refusal :=
  match i with
  | .init => Sys2Proof.Machine.execInit s
  | .sample => Sys2Proof.Machine.execSample s
  | .filterCs => Sys2Proof.Machine.execFilterCs s
  | .filterMa => Sys2Proof.Machine.execFilterMa s
  | .decode => Sys2Proof.Machine.execDecode s
  | .apply => Sys2Proof.Machine.execApply s
  | .halt => Sys2Proof.Machine.execHalt s
  | .fwHigh => Sys2Proof.Machine.execFwHigh s
  | .fwOn => Sys2Proof.Machine.execFwOn s
  | .fwOff => Sys2Proof.Machine.execFwOff s
  | .stopHigh => Sys2Proof.Machine.execStopHigh s
  | .stopOn => Sys2Proof.Machine.execStopOn s
  | .stopOff => Sys2Proof.Machine.execStopOff s
  | .revOn => Sys2Proof.Machine.execRevOn s
  | .revOff => Sys2Proof.Machine.execRevOff s
  | .blinkNone => Sys2Proof.Machine.execBlinkNone s
  | .blinkLeft => Sys2Proof.Machine.execBlinkLeft s
  | .blinkRight => Sys2Proof.Machine.execBlinkRight s
  | .blinkHazard => Sys2Proof.Machine.execBlinkHazard s
  | .outLevelOff c => Sys2Proof.Machine.execOutLevelOff c s
  | .outLevelOn c => Sys2Proof.Machine.execOutLevelOn c s
  | .outLevelHigh c => Sys2Proof.Machine.execOutLevelHigh c s
  | .outEnable c e => Sys2Proof.Machine.execOutEnable c e s
  | .icReset => Sys2Proof.Machine.execIcReset s
  | .icEnable e => Sys2Proof.Machine.execIcEnable e s

end Sys2Proof.Machine
end

