-- ==== Sys2Proof/Machine/Step.lean ====
section
/-! DEFINITION. One step: reset where `rst` is asserted (70_reset R116), else the fetched operation (R95). -/

namespace Sys2Proof.Machine

/-- One step of the machine. -/
def step (s : State) : Host.Outcome State Fault Refusal :=
  match s.rstAnswer with
  | some n => .next (resetInside n s)
  | none =>
    match decode s.par.filterMode (fetch s) with
    | .ok i => exec i (fetched s)
    | .error e => .refused (.noRule e)

/-- The state with a word of opcode_table.json where the next step fetches it (log 9, log 10). A word of no format
changes nothing. -/
def State.withFetchWord (s : State) (nbits w : Nat) : State :=
  match tableWord nbits w with
  | some cw => deassertRst (placeWord cw s)
  | none => s

end Sys2Proof.Machine
end

