-- ==== Sys2Proof/Safety.lean ====
section
/-!
DEFINITION. What counts as a good state and a quiet run of the block, in the terms the statements use.
-/

namespace Sys2Proof.Machine

/-- What holds of the block between two operations, whatever the environment answers. Nothing here speaks of the
peripherals or of the coming answers. -/
structure State.Inv (s : State) : Prop where
  /-- Nothing is waiting to be issued alone (log 9). -/
  noIssue : s.issue = none
  /-- Both rings have their size and their index lies inside (R18, R19, R21, R29). -/
  rings : Memory.wf s = true
  /-- The running sum is the sum of the ring (R22, R63). -/
  sum : s.maSum = (s.maBuf.map BitVec.toNat).sum
  /-- Under `consensus` the other strategy's state is at its reset value (R65). -/
  idleMa : s.par.filterMode = .consensus →
    s.maBuf = List.replicate s.par.maN 0 ∧ s.maIdx = 0 ∧ s.maSum = 0
  /-- Under `moving_average` the other strategy's state is at its reset value (R65). -/
  idleCs : s.par.filterMode = .movingAverage →
    s.csBuf = List.replicate s.par.consensusM 0 ∧ s.csIdx = 0 ∧ s.stable = 0
  /-- The filtered width is one a filter can output (R13, R63). -/
  widthBound : s.width ≤ denominator s.par * 65535
  /-- Before DECODE the width is the filter's output (R60, R63). -/
  filtered : s.phase = .decode →
    s.width = (match s.par.filterMode with
      | .consensus => s.stable.toNat
      | .movingAverage => s.maSum)
  /-- Before APPLY the index is the one of the width, in full (R14, R66), and a clamped configuration is its
  packing (R67, R68). -/
  decoded : s.phase = .apply →
    s.id.toInt = idRaw s.par s.width ∧
    (s.par.clampId = true → s.cfg = pack (clamp (idRaw s.par s.width) 0 47).toNat)
  /-- A clamped configuration is never a reserved word (R41, R50). -/
  cfgLegal : s.par.clampId = true → ¬ (cfgBrake s.cfg = true ∧ cfgReverse s.cfg = true)
  /-- The blinkers, Reverse and FrontBlue are never High (R94 (b)). -/
  neverHigh : s.ls.left ≠ .high ∧ s.ls.right ≠ .high ∧ s.ls.reverse ≠ .high ∧ s.ls.frontBlue ≠ .high
  /-- FrontBlue is On from the end of a passing INIT onward (R84). -/
  frontBlueOn : s.phase ≠ .init → s.phase ≠ .halt → s.ls.frontBlue = .on
  /-- Before INIT the block is at its reset values (R117). -/
  fresh : s.phase = .init → s = applyReset s
  /-- In HALT a cause is recorded and everything else is at its reset value (R100, R102). -/
  halted : s.phase = .halt →
    s.fault ≠ .none ∧ s = { applyReset s with phase := .halt, fault := s.fault }
  /-- Outside HALT no cause is recorded (R17, R102). -/
  running : s.phase ≠ .halt → s.fault = .none
  /-- The timer entries no blinker uses are at their reset value (R24). -/
  idleTimers : s.bt.frontBlue = .reset ∧ s.bt.stop = .reset ∧ s.bt.reverse = .reset ∧
    (match s.par.timerMode with
      | .shared => s.bt.left = .reset ∧ s.bt.right = .reset
      | .perChannel => s.bt.frontWhite = .reset)

/-- `rst` stays deasserted in each of the coming `k` steps. -/
def quietRst (k : Nat) (s : State) : Prop := s.env.rst.answers.take k = List.replicate k none

/-- CLK-MONO (R109) for a list of successive readings: each is less than half the clock's range after the one
before. -/
def clkMono : List Time → Bool
  | a :: b :: rest => reached b a && clkMono (b :: rest)
  | _ => true

/-- The peripheral's level of every channel is the level `LS` believes it has (R23, R121). -/
def levelsAgree (s : State) : Prop := ∀ c : Channel, s.dev.level.get c = (s.ls.get c).level

/-- The level writes of a trace, in order (R26). -/
def levelTrace (ev : List Event) : List Event := ev.filter Event.isLevelWrite

/-- FILTER.CS run on each of a list of raw samples, first the head (R61). -/
def feed : List Sample → State → Host.Outcome State Fault Refusal
  | [], s => .next s
  | x :: xs, s =>
    match exec .filterCs { s with raw := x } with
    | .next t => feed xs t
    | .fault r => .fault r
    | .refused r => .refused r

/-! ### Effects, as the rules describe them -/

/-- What an execution has had to do with the environment: the commands it has driven (R26) and the answers it has
taken (R9). -/
def accesses (s : State) : Nat :=
  s.ev.length + s.env.cap.taken + s.env.icElapsed.taken + s.env.now.taken + s.env.draw.taken

/-- A timer is not reached at a reading (R89). -/
def staysAt (s : State) (t : Channel) (now : Time) : Bool := !reached now (s.bt.get t).nextToggle

/-- No timer that APPLY would evaluate is reached at the reading it would get (R85, R88, R90 to R93). -/
def noToggle (s : State) : Bool :=
  if cfgBlink s.cfg = 0 then true
  else if cfgBlink s.cfg = 1 then staysAt s (tsel s.par.timerMode .left) s.clockAnswer
  else if cfgBlink s.cfg = 2 then staysAt s (tsel s.par.timerMode .right) s.clockAnswer
  else match s.par.timerMode with
    | .shared => staysAt s .frontWhite s.clockAnswer
    | .perChannel => staysAt s .left s.clockAnswer && staysAt s .right (tookClock s).clockAnswer

/-- The level write a change of `LS[c]` from `old` to `new` makes: none when there is no change (R86). -/
def turnEvents (c : Channel) (old new : LightState) : List Event :=
  if old = new then [] else [.outLevel c new.level]

/-- The state BLINK_DRIVE leaves a channel in, from the phase decision and the channel's state (R87). -/
def driven (p : Bool) (old : LightState) : LightState :=
  if p = true then .on else if old = .on then .off else old

/-- Every channel of `t` whose light state differs from `s` has been written with its new level, and no other
level has changed (R86, R111). -/
def levelsFollow (s t : State) : Prop :=
  ∀ c : Channel, t.dev.level.get c = if t.ls.get c = s.ls.get c then s.dev.level.get c else (t.ls.get c).level

/-- Nothing but the lights, their trace and their levels differs. -/
def onlyLights (s t : State) : Prop :=
  t = { s with ls := t.ls, ev := t.ev, dev := { s.dev with level := t.dev.level } }

/-- Nothing but the lights, their trace and levels, the blink timers and the clock's answers differs. -/
def onlyBlink (s t : State) : Prop :=
  t = { s with ls := t.ls, ev := t.ev, dev := { s.dev with level := t.dev.level }, bt := t.bt,
               env := { s.env with now := t.env.now } }

/-- `t` is `s` after TURN(c, v) (R86), everything else unchanged. -/
def turned (c : Channel) (v : LightState) (s t : State) : Prop :=
  (∀ d : Channel, t.ls.get d = if d = c then v else s.ls.get d) ∧
  t.ev = s.ev ++ turnEvents c (s.ls.get c) v ∧
  levelsFollow s t ∧ onlyLights s t

/-- The operation is a sub-operation of APPLY (R42). -/
def isSubOperation (i : Instr) : Bool := (subMask i).isSome

/-- The operation is one that writes `LS` (R23, R86). -/
def writesLights (i : Instr) : Bool := isSubOperation i || decide (i = .apply) || decide (i = .init)

/-- The operation is one that evaluates a blink timer (R24, R88). -/
def writesTimers (i : Instr) : Bool :=
  decide (i = .apply) || decide (i = .blinkLeft) || decide (i = .blinkRight) || decide (i = .blinkHazard)

/-- The level write is to the channel. -/
def Event.writesTo (c : Channel) : Event → Bool
  | .outLevel d _ => decide (d = c)
  | .icReset | .icEnable _ | .outEnable _ _ => false

/-- Two outcomes are of one kind, with the same reason, and their next states are related. -/
def outcomesAgree (r : State → State → Prop) (a b : Host.Outcome State Fault Refusal) : Prop :=
  match a, b with
  | .next s, .next t => r s t
  | .fault x, .fault y => x = y
  | .refused x, .refused y => x = y
  | .next _, .fault _ => False
  | .next _, .refused _ => False
  | .fault _, .next _ => False
  | .fault _, .refused _ => False
  | .refused _, .next _ => False
  | .refused _, .fault _ => False

end Sys2Proof.Machine
end

