-- ==== Sys2Proof/Certificates/Slice0/Obligations.lean ====
section
/-!
DEFINITION. The statements for the provers. Each docstring names the rule of the spec it formalises, or says that
it is the model's own choice and where that is logged.
-/

open Sys2Proof Sys2Proof.Machine

/-! ### Encoding -/

/-- R39 to R47: decoding the encoding of any instruction of the machine gives it back. The codes are the spec's own
decisions D1, D13, D14, D23. -/
def Obligations.DecodeOfEncodeIsTheInstruction : Prop :=
  ∀ (mode : FilterMode) (i : Instr), i.wellFormed mode = true → decode mode (encode i) = .ok i

/-- R42, R45 to R47, the other direction: a word of PHASE, OUT or ICC that decodes is the encoding of what it decodes
to, and a CFG word is it in the bits its slot examines. What a word decodes to is an instruction of the machine. The
codes are the spec's own decisions D1, D13, D14, D23. -/
def Obligations.DecodedWordIsTheEncoding : Prop :=
  ∀ (mode : FilterMode) (w : CodeWord) (i : Instr), decode mode w = .ok i →
    i.wellFormed mode = true ∧
    match w with
    | .sub k v => ∃ m : CfgWord, subMask i = some m ∧ encode i = .sub k (v &&& m)
    | .phase v => encode i = .phase v
    | .out v => encode i = .out v
    | .icc v => encode i = .icc v

/-- R42 (an inference of the spec's own): every CFG word selects, in every slot, the sub-operation whose pattern it
matches, and no other. -/
def Obligations.SlotSelectsItsOnlyMatch : Prop :=
  ∀ (k : Slot) (w : CfgWord) (i : Instr) (m v : CfgWord),
    subMask i = some m → encode i = .sub k v → (decodeSlot k w = i ↔ w &&& m = v)

/-- R40, R45, R46, R47: a few words written out from the spec's encodings decode to what they stand for. The codes are
the spec's own decisions D1, D13, D14, D23. -/
def Obligations.WordsOfTheSpecDecode : Prop :=
  decode .consensus (.phase 0b010) = .ok .filterCs ∧
  decode .movingAverage (.phase 0b010) = .ok .filterMa ∧
  decode .consensus (.phase 0b111) = .ok .halt ∧
  decode .consensus (.sub .frontWhite 0b111110) = .ok .fwHigh ∧
  decode .consensus (.sub .stop 0b111110) = .ok .stopOn ∧
  decode .consensus (.sub .reverse 0b111110) = .ok .revOn ∧
  decode .consensus (.sub .blinkers 0b111110) = .ok .blinkHazard ∧
  decode .consensus (.out 0b00010010100) = .ok (.outLevelOn .frontBlue) ∧
  decode .consensus (.out 0b11010000001) = .ok (.outEnable .reverse true) ∧
  decode .consensus (.icc 0b11) = .ok (.icEnable true)

/-- R41, R72 (an inference of the spec's own): the packing of an index 0 to 47 and its inverse, and which words it
reaches. -/
def Obligations.PackingRoundTrip : Prop :=
  (∀ n : Nat, n < 48 →
    ((pack n).extractLsb' 0 2).toNat = n % 3 ∧ ((pack n).extractLsb' 2 4).toNat = n / 3 ∧
    3 * ((pack n).extractLsb' 2 4).toNat + ((pack n).extractLsb' 0 2).toNat = n) ∧
  (∀ w : CfgWord, w.extractLsb' 0 2 ≠ 3 ↔ ∃ n : Nat, n < 48 ∧ pack n = w)

/-! ### Reset and the step -/

/-- R117: the reset values, for every configuration record. All but those of the blink timers are the spec's own
decisions D5, D6, D12 (log 6). -/
def Obligations.ResetRegistersHoldTheirValues : Prop :=
  ∀ (p : Params) (d : Devices) (e : Env),
    (State.resetWith p d e).phase = .init ∧ (State.resetWith p d e).fault = .none ∧
    (State.resetWith p d e).raw = 0 ∧ (State.resetWith p d e).width = 0 ∧
    (State.resetWith p d e).id = 0 ∧ (State.resetWith p d e).cfg = 0 ∧
    (State.resetWith p d e).csBuf.length = p.consensusM ∧ (∀ x ∈ (State.resetWith p d e).csBuf, x = 0) ∧
    (State.resetWith p d e).csIdx = 0 ∧ (State.resetWith p d e).stable = 0 ∧
    (State.resetWith p d e).maBuf.length = p.maN ∧ (∀ x ∈ (State.resetWith p d e).maBuf, x = 0) ∧
    (State.resetWith p d e).maIdx = 0 ∧ (State.resetWith p d e).maSum = 0 ∧
    (∀ c : Channel, (State.resetWith p d e).ls.get c = .off) ∧
    (∀ c : Channel, (State.resetWith p d e).bt.get c = ⟨0, false⟩) ∧
    (State.resetWith p d e).ev = []

/-- R116, R117: a step at which `rst` is asserted puts every register at its reset value, whatever it held, and leaves the
peripherals and the environment as the actions taken before it left them; when it comes before the first action, as they
were. The port `rst` is the spec's own decision D29; that its place is counted in actions, once a step, is the model's
choice (log 5). -/
def Obligations.ResetWipesTheBlock : Prop :=
  ∀ (s : State) (n : Nat), s.rstAnswer = some n →
    (n = 0 → step s = .next (State.resetWith s.par s.dev { s.env with rst := s.env.rst.advance })) ∧
    ∃ u : State, u = perform ((pendingActions s).take n) (fetched s) ∧
      u.env.rst = s.env.rst.advance ∧ step s = .next (State.resetWith s.par u.dev u.env)

/-- R35, R116: what the peripherals hold after a reset inside an operation. Inside INIT after a passing check, inside
SAMPLE, and after the first slot of APPLY, it is what the operation had driven by then, and no more; inside INIT after a
failing check, FILTER, DECODE or HALT, which drive nothing, it is what it was. The order of INIT's enables, of SAMPLE's
commands and of APPLY's slots is the spec's own decisions D15, D21, D23; the counting of actions and the peripherals'
state are the model's choice (log 5, log 7). -/
def Obligations.ResetInsideKeepsWhatWasDriven : Prop :=
  ∀ (s : State) (n : Nat), s.issue = none → s.rstAnswer = some n → ∃ t : State, step s = .next t ∧
    (s.phase = .init → s.capAnswer = 0 →
      (∀ c : Channel, t.dev.enabled.get c = if c.id.toNat + 2 ≤ n then true else s.dev.enabled.get c) ∧
      (∀ c : Channel, t.dev.level.get c =
        if c = .frontBlue ∧ 8 ≤ n ∧ s.ls.frontBlue ≠ .on then 20 else s.dev.level.get c) ∧
      t.dev = { s.dev with enabled := t.dev.enabled, level := t.dev.level } ∧
      t.env.cap = if 1 ≤ n then s.env.cap.advance else s.env.cap) ∧
    (s.phase = .init → s.capAnswer ≠ 0 →
      t.dev = s.dev ∧ t.env.cap = if 1 ≤ n then s.env.cap.advance else s.env.cap) ∧
    (s.phase = .sample →
      t.dev = { s.dev with
        icEnabled := if n ≤ 1 then s.dev.icEnabled else decide (n ≤ 3)
        icCount := if n = 0 then s.dev.icCount else if n ≤ 2 then 0 else s.sampleAnswer } ∧
      t.env.icElapsed = if n ≤ 2 then s.env.icElapsed else s.env.icElapsed.advance) ∧
    (s.phase = .filter ∨ s.phase = .decode ∨ s.phase = .halt → t.dev = s.dev) ∧
    (s.phase = .apply → n = 1 → ∀ v : LightState,
      v = (if cfgHighBeam s.cfg then .high else if cfgDayNight s.cfg then .on else .off) →
      (∀ c : Channel, t.dev.level.get c =
        if c = .frontWhite ∧ s.ls.frontWhite ≠ v then v.level else s.dev.level.get c) ∧
      t.dev = { s.dev with level := t.dev.level })

/-- R34, R35: the actions of an operation, taken in order, are the operation, and each of them drives or reads the
environment at most once, so a reset can fall between any two commands. The division into actions is the model's choice
(log 5). -/
def Obligations.ActionsMakeUpTheOperation : Prop :=
  (∀ (i : Instr) (s t : State), exec i s = .next t → perform (actions i s) s = t) ∧
  (∀ (i : Instr) (s : State) (n : Nat),
    accesses (perform ((actions i s).take n) s) ≤ accesses (perform ((actions i s).take (n + 1)) s) ∧
    accesses (perform ((actions i s).take (n + 1)) s) ≤ accesses (perform ((actions i s).take n) s) + 1)

/-- R16, R95: with `rst` not asserted, a step whose word decodes is exec of the instruction it decodes to, on the
state with that step's `rst` sample and any directly issued word taken; and without a directly issued word the word is
the code in `PHASE`. `PHASE` is the spec's own decision D1; the latch is the model's choice (log 9). -/
def Obligations.StepRunsTheDecodedInstruction : Prop :=
  ∀ s : State, s.rstAnswer = none →
    (∀ i : Instr, decode s.par.filterMode (fetch s) = .ok i →
      step s = exec i { s with env := { s.env with rst := s.env.rst.advance }, issue := none }) ∧
    (s.issue = none → fetch s = .phase s.phase.code)

/-- R50 and U6 of 93_implementation_defined: a word no rule covers stops the machine, by name. This is the model's
form of 'stuck' (log 11). -/
def Obligations.StepStopsOnReservedCodes : Prop :=
  ∀ (s : State) (e : DecodeError), s.rstAnswer = none → decode s.par.filterMode (fetch s) = .error e →
    step s = .refused (.noRule e)

/-- R95: the transitions of the sequencer (the spec's own decisions D1, D17), as a step takes them from a state that
meets the invariant. -/
def Obligations.StepFollowsTheTransitionTable : Prop :=
  ∀ s : State, s.Inv → s.rstAnswer = none → ∃ t : State, step s = .next t ∧
    t.phase = (match s.phase with
      | .init => if s.capAnswer = 0 then Phase.sample else Phase.halt
      | .sample => .filter
      | .filter => .decode
      | .decode => .apply
      | .apply => .sample
      | .halt => .halt)

/-! ### INIT and HALT -/

/-- R96: INIT after a passing capability check. The six enables and their order are the spec's own decision D15; the
peripheral's levels and enables are kept in the state by the model's choice (log 7). -/
def Obligations.InitStartsTheBlock : Prop :=
  ∀ s : State, s.capAnswer = 0 → ∃ t : State, exec .init s = .next t ∧
    t.phase = .sample ∧
    (∀ c : Channel, t.ls.get c = if c = .frontBlue then .on else s.ls.get c) ∧
    t.ev = s.ev ++ [.outEnable .frontWhite true, .outEnable .frontBlue true, .outEnable .left true,
      .outEnable .right true, .outEnable .stop true, .outEnable .reverse true]
      ++ turnEvents .frontBlue s.ls.frontBlue .on ∧
    (∀ c : Channel, t.dev.enabled.get c = true) ∧ levelsFollow s t ∧
    t = { s with phase := .sample, ls := t.ls, ev := t.ev,
                 dev := { s.dev with level := t.dev.level, enabled := t.dev.enabled },
                 env := { s.env with cap := s.env.cap.advance } }

/-- R102, R103, R106: INIT after a failing capability check takes FatalConfigMismatch. The clock mismatch wins,
control goes to HALT, and nothing of the block changes but `FAULT` and `PHASE`. The codes, the priority and HALT are
the spec's own decisions D16, D17. -/
def Obligations.InitTakesTheFatalMismatch : Prop :=
  ∀ s : State, s.capAnswer ≠ 0 →
    exec .init s = .next { s with
      fault := if s.capAnswer.getLsbD 0 then .clockMismatch else .bindingMismatch,
      phase := .halt,
      env := { s.env with cap := s.env.cap.advance } }

/-- R100, R108 (the spec's own decision D17): HALT changes no state, and a halted block stays as it is for any number of
steps without reset. -/
def Obligations.HaltIsAbsorbing : Prop :=
  (∀ s : State, exec .halt s = .next s) ∧
  (∀ (k : Nat) (s : State), s.phase = .halt → s.issue = none → quietRst k s →
    ∃ t : State, Host.Core.run Sys2Proof.core k s = .next t ∧
      t = { s with env := { s.env with rst := t.env.rst } })

/-! ### SAMPLE -/

/-- R57: SAMPLE. The capture peripheral is reset, run for one period and stopped, and `RAW` is the high time it then
holds. The order of the commands is the spec's own decision D23; that the model keeps the counter in its state and
fills it at the end of the period is the model's choice (log 7, log 8). -/
def Obligations.SampleMeasuresOnce : Prop :=
  ∀ s : State, exec .sample s = .next { s with
    raw := s.sampleAnswer,
    phase := .filter,
    ev := s.ev ++ [.icReset, .icEnable true, .icEnable false],
    dev := { s.dev with icEnabled := false, icCount := s.sampleAnswer },
    env := { s.env with icElapsed := s.env.icElapsed.advance } }

/-! ### FILTER -/

/-- R60: FILTER.CS, wherever the ring's words exist. -/
def Obligations.ConsensusFilterStep : Prop :=
  ∀ s : State, s.csBuf.length = s.par.consensusM → s.csIdx < s.par.consensusM →
    ∃ t : State, exec .filterCs s = .next t ∧
      t.csBuf = s.csBuf.set s.csIdx s.raw ∧
      t.csIdx = (s.csIdx + 1) % s.par.consensusM ∧
      ((s.raw ≠ s.stable ∧ ∀ i < s.par.consensusM, t.csBuf[i]? = some s.raw) → t.stable = s.raw) ∧
      (¬ (s.raw ≠ s.stable ∧ ∀ i < s.par.consensusM, t.csBuf[i]? = some s.raw) → t.stable = s.stable) ∧
      t.width = t.stable.toNat ∧
      t = { s with csBuf := t.csBuf, csIdx := t.csIdx, stable := t.stable, width := t.width, phase := .decode }

/-- R60 (a) (an inference of the spec's own): after FILTER.CS, `STABLE` is `RAW` where every word of the stored window is
`RAW`, and is as it was where some word is not, whether or not it equals `RAW`. -/
def Obligations.ConsensusAdoptsExactlyAnAgreeingWindow : Prop :=
  ∀ s : State, ringOk .cs s = true → ∃ t : State, exec .filterCs s = .next t ∧
    ((∀ x ∈ t.csBuf, x = s.raw) → t.stable = s.raw) ∧
    (¬ (∀ x ∈ t.csBuf, x = s.raw) → t.stable = s.stable)

/-- R60, R125: `CONSENSUS_M` equal samples in a row are accepted, whatever the filter held. An inference of the spec's
own. -/
def Obligations.EqualSamplesAreAccepted : Prop :=
  ∀ (s : State) (v : Sample), ringOk .cs s = true → ∃ t : State,
    feed (List.replicate s.par.consensusM v) s = .next t ∧ t.stable = v ∧ t.width = v.toNat

/-- R61, latency (an inference of the spec's own): after a sample other than `v`, fewer than `CONSENSUS_M` further
samples cannot make `v` the stable value. -/
def Obligations.NoAcceptanceBeforeAFullWindow : Prop :=
  ∀ (s : State) (v x : Sample) (xs : List Sample), ringOk .cs s = true → s.stable ≠ v → x ≠ v →
    xs.length < s.par.consensusM → ∃ t : State, feed (x :: xs) s = .next t ∧ t.stable ≠ v

/-- R61, rejection (an inference of the spec's own): `CONSENSUS_M - 1` identical samples after a different one,
followed by a differing one, do not change the stable value. -/
def Obligations.AlmostFullWindowIsRejected : Prop :=
  ∀ (s : State) (x v w : Sample), ringOk .cs s = true → 2 ≤ s.par.consensusM → x ≠ v → w ≠ v →
    ∃ t u : State, feed [x] s = .next t ∧
      feed (x :: List.replicate (s.par.consensusM - 1) v ++ [w]) s = .next u ∧ u.stable = t.stable

/-- R124: a signal in which no two successive samples are equal changes `STABLE` no more after its first sample, which the
samples stored before it may still have completed to an agreeing window. -/
def Obligations.JitterNeverLocks : Prop :=
  ∀ (s : State) (x : Sample) (xs : List Sample), ringOk .cs s = true → 2 ≤ s.par.consensusM →
    List.IsChain (fun a b => a ≠ b) (x :: xs) →
    ∃ t u : State, feed [x] s = .next t ∧ feed (x :: xs) s = .next u ∧ u.stable = t.stable

/-- R63 (the spec's own decision D4): FILTER.MA, wherever the ring's words exist and the running sum is the ring's
(R22). -/
def Obligations.MovingAverageFilterStep : Prop :=
  ∀ s : State, s.maBuf.length = s.par.maN → s.maIdx < s.par.maN →
    s.maSum = (s.maBuf.map BitVec.toNat).sum →
    ∃ t : State, ∃ evicted : Sample, exec .filterMa s = .next t ∧
      s.maBuf[s.maIdx]? = some evicted ∧
      (t.maSum : Int) = (s.maSum : Int) - (evicted.toNat : Int) + (s.raw.toNat : Int) ∧
      t.maSum = (t.maBuf.map BitVec.toNat).sum ∧
      t.maSum ≤ s.par.maN * 65535 ∧
      t.maBuf = s.maBuf.set s.maIdx s.raw ∧
      t.maIdx = (s.maIdx + 1) % s.par.maN ∧
      t.width = t.maSum ∧
      t = { s with maBuf := t.maBuf, maIdx := t.maIdx, maSum := t.maSum, width := t.width, phase := .decode }

/-- R29, R103: where the storage is in form, both FILTERs run to their end and leave it in form, so the next index lies
inside its space again; no operation faults. -/
def Obligations.FiltersStayInsideTheirRings : Prop :=
  ∀ s : State, Memory.wf s = true →
    (∃ t : State, exec .filterCs s = .next t ∧ Memory.wf t = true ∧
      t.csIdx < s.par.consensusM ∧ t.maIdx = s.maIdx) ∧
    (∃ t : State, exec .filterMa s = .next t ∧ Memory.wf t = true ∧
      t.maIdx < s.par.maN ∧ t.csIdx = s.csIdx) ∧
    (∀ (i : Instr) (r : Fault), exec i s ≠ .fault r)

/-! ### DECODE -/

/-- R66 to R69: DECODE with the clamp. Exact arithmetic, truncation toward zero, the clamp and the width of `ID` are
the spec's own decisions D3, D9, D10, D30; that `ID` holds the unclamped index is R14's and R69's word (log 14). -/
def Obligations.DecodeClampsAndPacks : Prop :=
  ∀ (s : State) (d span idx idc : Int), s.par.clampId = true →
    d = (match s.par.filterMode with
      | .consensus => 1
      | .movingAverage => (s.par.maN : Int)) →
    span = (s.par.rangeMax.toNat : Int) - (s.par.rangeMin.toNat : Int) →
    idx = Int.tdiv (94 * ((s.width : Int) - d * (s.par.rangeMin.toNat : Int)) + d * span) (2 * d * span) →
    idc = (if idx < 0 then 0 else if 47 < idx then 47 else idx) →
    exec .decode s = .next { s with
      id := BitVec.ofInt 16 idx,
      cfg := BitVec.ofNat 6 ((idc.toNat % 3) ||| ((idc.toNat / 3) <<< 2)),
      phase := .apply }

/-- R66, R69, R70: DECODE without the clamp. An index of 0 or more gives the low six bits of its packing; a negative
one gives the word the environment draws, and only that word is free (the spec's own decisions D9, D10, D11). -/
def Obligations.DecodeUnclamped : Prop :=
  ∀ s : State, s.par.clampId = false →
    (0 ≤ idRaw s.par s.width → exec .decode s = .next { s with
      id := BitVec.ofInt 16 (idRaw s.par s.width),
      cfg := BitVec.ofNat 6 (((idRaw s.par s.width).toNat % 3) ||| (((idRaw s.par s.width).toNat / 3) <<< 2)),
      phase := .apply }) ∧
    (idRaw s.par s.width < 0 → exec .decode s = .next { s with
      id := BitVec.ofInt 16 (idRaw s.par s.width),
      cfg := s.drawAnswer,
      env := { s.env with draw := s.env.draw.advance },
      phase := .apply })

/-- R73: which widths have which index. The products are the spec's inequalities times `94·D/bucketSize`. An inference
of the spec's own. -/
def Obligations.BucketBoundaries : Prop :=
  ∀ (p : Params) (w : Nat) (x e : Int),
    x = 94 * ((w : Int) - (denominator p : Int) * (p.rangeMin.toNat : Int)) →
    e = (denominator p : Int) * ((p.rangeMax.toNat : Int) - (p.rangeMin.toNat : Int)) →
    (∀ k : Int, 1 ≤ k → (idRaw p w = k ↔ (2 * k - 1) * e ≤ x ∧ x < (2 * k + 1) * e)) ∧
    (idRaw p w = 0 ↔ -3 * e < x ∧ x < e) ∧
    (∀ k : Int, 1 ≤ k → (idRaw p w = -k ↔ -(2 * k + 3) * e < x ∧ x ≤ -(2 * k + 1) * e))

/-- R73 (an inference of the spec's own): the index, and the index that is packed under the clamp, never decrease as
the width grows. -/
def Obligations.BucketIndexIsMonotone : Prop :=
  ∀ (p : Params) (v w : Nat), v ≤ w → idRaw p v ≤ idRaw p w ∧ idPacked p (idRaw p v) ≤ idPacked p (idRaw p w)

/-- R67, R130: with the clamp, every width up to the top of bucket 0 packs index 0, and every width from the bottom of
bucket 47 packs index 47. The clamp is the spec's own decision D10. -/
def Obligations.ClampCoversBothEnds : Prop :=
  ∀ (p : Params) (w : Nat) (x e : Int), p.clampId = true →
    x = 94 * ((w : Int) - (denominator p : Int) * (p.rangeMin.toNat : Int)) →
    e = (denominator p : Int) * ((p.rangeMax.toNat : Int) - (p.rangeMin.toNat : Int)) →
    (x < e → idPacked p (idRaw p w) = 0) ∧ (93 * e ≤ x → idPacked p (idRaw p w) = 47)

/-- R7, R14: the index of every width a filter can output fits the signed 16-bit register, for every configuration
record. The width is the spec's own decision D30; that no illegal record exists is the model's choice (log 23). -/
def Obligations.BucketIndexFitsItsRegister : Prop :=
  ∀ (p : Params) (w : Nat), w ≤ denominator p * 65535 → (BitVec.ofInt 16 (idRaw p w)).toInt = idRaw p w

/-- R71 (an inference of the spec's own): with the clamp, `ID` and `CFG` after DECODE are functions of `WIDTH` and the
parameters alone. -/
def Obligations.DecodeIsPure : Prop :=
  ∀ s t : State, s.par = t.par → s.par.clampId = true → s.width = t.width →
    ∃ s' t' : State, exec .decode s = .next s' ∧ exec .decode t = .next t' ∧ s'.id = t'.id ∧ s'.cfg = t'.cfg

/-! ### The channel primitives -/

/-- R86: TURN, and a second TURN to the same state changes nothing. -/
def Obligations.TurnWritesOnlyOnChange : Prop :=
  ∀ (c : Channel) (v : LightState) (s : State),
    turned c v s (turn c v s) ∧ turn c v (turn c v s) = turn c v s

/-- R87: BLINK_DRIVE. -/
def Obligations.BlinkDriveFollowsThePhase : Prop :=
  ∀ (c : Channel) (p : Bool) (s : State), turned c (driven p (s.ls.get c)) s (blinkDrive c p s)

/-- R88: BLINK_EVAL. It reads the clock once; a reached deadline flips the phase and moves the deadline one interval
past the reading, and an unreached one changes nothing. -/
def Obligations.TimerEvaluation : Prop :=
  ∀ (c : Channel) (s : State),
    (reached s.clockAnswer (s.bt.get c).nextToggle = true → blinkEval c s = { s with
      bt := s.bt.set c ⟨s.clockAnswer + s.par.blinkInterval, !(s.bt.get c).phaseOn⟩,
      env := { s.env with now := s.env.now.advance } }) ∧
    (reached s.clockAnswer (s.bt.get c).nextToggle = false → blinkEval c s = { s with
      env := { s.env with now := s.env.now.advance } })

/-- R89 (the spec's own decision D20): the comparison of two readings, and, for two times less than half the clock's
range apart, counted without wrapping, it is the plain one, whether or not either reading has wrapped. -/
def Obligations.ReachedIsWrapSafe : Prop :=
  (∀ now d : Time, reached now d = true ↔ (now - d).toNat < 2 ^ 31) ∧
  (∀ now d : Nat, now < d + 2 ^ 31 → d < now + 2 ^ 31 →
    (reached (BitVec.ofNat 32 now) (BitVec.ofNat 32 d) = true ↔ d ≤ now))

/-- R94 (f), R109 (an inference of the spec's own): after a toggle at one reading, the next reading under CLK-MONO
toggles again exactly when at least `BLINK_INTERVAL` has gone by. -/
def Obligations.NoToggleBeforeTheInterval : Prop :=
  ∀ (p : Params) (a b : Time) (t : BlinkTimer), reached a t.nextToggle = true → clkMono [a, b] = true →
    ((t.eval p.blinkInterval a).eval p.blinkInterval b = t.eval p.blinkInterval a ↔
      (b - a).toNat < p.blinkInterval.toNat)

/-! ### The sub-operations of APPLY -/

/-- R76, R77, R78: the FrontWhite slot. -/
def Obligations.FrontWhiteSubOperations : Prop :=
  ∀ s : State,
    (∃ t : State, exec .fwHigh s = .next t ∧ turned .frontWhite .high s t) ∧
    (∃ t : State, exec .fwOn s = .next t ∧ turned .frontWhite .on s t) ∧
    (∃ t : State, exec .fwOff s = .next t ∧ turned .frontWhite .off s t) ∧
    (∀ w : CfgWord, decodeSlot .frontWhite w =
      if w.getLsbD 4 then .fwHigh else if w.getLsbD 5 then .fwOn else .fwOff)

/-- R79, R80, R81: the Stop slot. -/
def Obligations.StopSubOperations : Prop :=
  ∀ s : State,
    (∃ t : State, exec .stopHigh s = .next t ∧ turned .stop .high s t) ∧
    (∃ t : State, exec .stopOn s = .next t ∧ turned .stop .on s t) ∧
    (∃ t : State, exec .stopOff s = .next t ∧ turned .stop .off s t) ∧
    (∀ w : CfgWord, decodeSlot .stop w =
      if w.getLsbD 0 then .stopHigh else if w.getLsbD 5 then .stopOn else .stopOff)

/-- R82, R83: the Reverse slot. -/
def Obligations.ReverseSubOperations : Prop :=
  ∀ s : State,
    (∃ t : State, exec .revOn s = .next t ∧ turned .reverse .on s t) ∧
    (∃ t : State, exec .revOff s = .next t ∧ turned .reverse .off s t) ∧
    (∀ w : CfgWord, decodeSlot .reverse w = if w.getLsbD 1 then .revOn else .revOff)

/-- R90: BLINK.NONE, selected by a blink field of 0, turns both blinkers Off, left first, reads no clock and leaves
the timers as they are. -/
def Obligations.BlinkNoneTurnsBothOff : Prop :=
  (∀ s : State, ∃ t : State, exec .blinkNone s = .next t ∧
    (∀ c : Channel, t.ls.get c = if c = .left ∨ c = .right then .off else s.ls.get c) ∧
    t.ev = s.ev ++ turnEvents .left s.ls.left .off ++ turnEvents .right s.ls.right .off ∧
    levelsFollow s t ∧ onlyLights s t) ∧
  (∀ w : CfgWord, decodeSlot .blinkers w = .blinkNone ↔ w.extractLsb' 2 2 = 0)

/-- R91: BLINK.LEFT, selected by a blink field of 1, evaluates the left blinker's timer once, drives the left blinker
with the phase it returns, and turns the right one Off, in this order (the spec's own decisions D21, D22). -/
def Obligations.BlinkLeftBlinksTheLeft : Prop :=
  (∀ (s : State) (e : Channel) (tm : BlinkTimer), e = tsel s.par.timerMode .left →
    tm = (s.bt.get e).eval s.par.blinkInterval s.clockAnswer →
    ∃ t : State, exec .blinkLeft s = .next t ∧
      (∀ d : Channel, t.bt.get d = if d = e then tm else s.bt.get d) ∧
      t.ls = { s.ls with left := driven tm.phaseOn s.ls.left, right := .off } ∧
      t.ev = s.ev ++ turnEvents .left s.ls.left (driven tm.phaseOn s.ls.left)
        ++ turnEvents .right s.ls.right .off ∧
      t.env.now = s.env.now.advance ∧
      levelsFollow s t ∧ onlyBlink s t) ∧
  (∀ w : CfgWord, decodeSlot .blinkers w = .blinkLeft ↔ w.extractLsb' 2 2 = 1)

/-- R92: BLINK.RIGHT, selected by a blink field of 2, evaluates the right blinker's timer once, drives the right
blinker with the phase it returns, and turns the left one Off, in this order (the spec's own decisions D21, D22). -/
def Obligations.BlinkRightBlinksTheRight : Prop :=
  (∀ (s : State) (e : Channel) (tm : BlinkTimer), e = tsel s.par.timerMode .right →
    tm = (s.bt.get e).eval s.par.blinkInterval s.clockAnswer →
    ∃ t : State, exec .blinkRight s = .next t ∧
      (∀ d : Channel, t.bt.get d = if d = e then tm else s.bt.get d) ∧
      t.ls = { s.ls with right := driven tm.phaseOn s.ls.right, left := .off } ∧
      t.ev = s.ev ++ turnEvents .right s.ls.right (driven tm.phaseOn s.ls.right)
        ++ turnEvents .left s.ls.left .off ∧
      t.env.now = s.env.now.advance ∧
      levelsFollow s t ∧ onlyBlink s t) ∧
  (∀ w : CfgWord, decodeSlot .blinkers w = .blinkRight ↔ w.extractLsb' 2 2 = 2)

/-- R93 (the spec's own decisions D18, D21, D22): BLINK.HAZARD, selected by a blink field of 3. Under `shared` it
evaluates entry 0 once and drives both blinkers, left first, with the one phase; under `per_channel` it evaluates each
blinker's own timer with its own reading, left first. -/
def Obligations.HazardFollowsTheTimerMode : Prop :=
  (∀ (s : State) (tm : BlinkTimer), s.par.timerMode = .shared →
    tm = s.bt.frontWhite.eval s.par.blinkInterval s.clockAnswer →
    ∃ t : State, exec .blinkHazard s = .next t ∧
      t.bt = { s.bt with frontWhite := tm } ∧
      t.ls = { s.ls with left := driven tm.phaseOn s.ls.left, right := driven tm.phaseOn s.ls.right } ∧
      t.ev = s.ev ++ turnEvents .left s.ls.left (driven tm.phaseOn s.ls.left)
        ++ turnEvents .right s.ls.right (driven tm.phaseOn s.ls.right) ∧
      t.env.now = s.env.now.advance ∧
      levelsFollow s t ∧ onlyBlink s t) ∧
  (∀ (s : State) (tl tr : BlinkTimer), s.par.timerMode = .perChannel →
    tl = s.bt.left.eval s.par.blinkInterval (s.env.now.next Config.freeClock) →
    tr = s.bt.right.eval s.par.blinkInterval (s.env.now.advance.next Config.freeClock) →
    ∃ t : State, exec .blinkHazard s = .next t ∧
      t.bt = { s.bt with left := tl, right := tr } ∧
      t.ls = { s.ls with left := driven tl.phaseOn s.ls.left, right := driven tr.phaseOn s.ls.right } ∧
      t.ev = s.ev ++ turnEvents .left s.ls.left (driven tl.phaseOn s.ls.left)
        ++ turnEvents .right s.ls.right (driven tr.phaseOn s.ls.right) ∧
      t.env.now = s.env.now.advance.advance ∧
      levelsFollow s t ∧ onlyBlink s t) ∧
  (∀ w : CfgWord, decodeSlot .blinkers w = .blinkHazard ↔ w.extractLsb' 2 2 = 3)

/-! ### APPLY -/

/-- R42, R74: APPLY runs, in order, the sub-operation each slot's decoding of `CFG` selects, then goes to SAMPLE. The
order of the slots is the spec's own decision D21. -/
def Obligations.ApplyRunsTheSelectedSubOperations : Prop :=
  ∀ s : State, ∃ a b c d : State,
    exec (decodeSlot .frontWhite s.cfg) s = .next a ∧
    exec (decodeSlot .stop s.cfg) a = .next b ∧
    exec (decodeSlot .reverse s.cfg) b = .next c ∧
    exec (decodeSlot .blinkers s.cfg) c = .next d ∧
    exec .apply s = .next { d with phase := .sample }

/-- R94 (a), R84 (an inference of the spec's own): APPLY makes level writes only, at most one a channel and at most
five in all, and none to FrontBlue. -/
def Obligations.ApplyWritesEachChannelAtMostOnce : Prop :=
  ∀ s : State, ∃ (t : State) (l : List Event), exec .apply s = .next t ∧ t.ev = s.ev ++ l ∧
    (∀ e ∈ l, e.isLevelWrite = true) ∧ l.length ≤ 5 ∧
    (∀ c : Channel, (l.filter (Event.writesTo c)).length ≤ 1) ∧
    (l.filter (Event.writesTo .frontBlue)).length = 0 ∧ t.ls.frontBlue = s.ls.frontBlue

/-- R94 (a) (an inference of the spec's own): in either timer mode, a second APPLY of the same word in which no timer it
evaluates is reached makes no level write and changes no light and no timer. Where the blink field is 0 no timer is
evaluated, so nothing is asked of the clock. -/
def Obligations.SecondApplyIsSilent : Prop :=
  ∀ (s t : State) (e : Env), s.ls.left ≠ .high → s.ls.right ≠ .high →
    exec .apply s = .next t → noToggle { t with env := e } = true →
    ∃ u : State, exec .apply { t with env := e } = .next u ∧ u.ev = t.ev ∧ u.ls = t.ls ∧ u.bt = t.bt

/-- R94 (c) (an inference of the spec's own): under `shared`, an APPLY whose blink field is hazard leaves the two
blinkers in one state, On or Off by the phase of the one timer. -/
def Obligations.HazardBlinkersStaySynchronous : Prop :=
  ∀ s : State, s.par.timerMode = .shared → cfgBlink s.cfg = 3 → s.ls.left ≠ .high → s.ls.right ≠ .high →
    ∃ t : State, exec .apply s = .next t ∧ t.ls.left = t.ls.right ∧
      t.ls.left = (if t.bt.frontWhite.phaseOn = true then .on else .off)

/-- R129: under `per_channel`, hazard can leave the two blinkers in different states. -/
def Obligations.PerChannelTimersCanDrift : Prop :=
  ∃ s t : State, s.Inv ∧ s.par.timerMode = .perChannel ∧ s.phase = .apply ∧ cfgBlink s.cfg = 3 ∧
    exec .apply s = .next t ∧ t.ls.left ≠ t.ls.right

/-! ### The port words -/

/-- R45, R111: the OUT words. Each is one call of the Output Intensity Peripheral and one event, and its event drives
the word it is decoded from. The format is the spec's own decision D14; that the model keeps the peripheral's levels
and enables in its state is the model's choice (log 7), and that the word alone leaves `PHASE` is too (log 25). -/
def Obligations.OutputWordsCommandOneChannel : Prop :=
  ∀ (s : State) (c : Channel) (e : Bool),
    (exec (.outLevelOff c) s = .next { s with
      ev := s.ev ++ [.outLevel c 0], dev := { s.dev with level := s.dev.level.set c 0 } } ∧
      (Event.outLevel c 0).word = encode (.outLevelOff c)) ∧
    (exec (.outLevelOn c) s = .next { s with
      ev := s.ev ++ [.outLevel c 20], dev := { s.dev with level := s.dev.level.set c 20 } } ∧
      (Event.outLevel c 20).word = encode (.outLevelOn c)) ∧
    (exec (.outLevelHigh c) s = .next { s with
      ev := s.ev ++ [.outLevel c 100], dev := { s.dev with level := s.dev.level.set c 100 } } ∧
      (Event.outLevel c 100).word = encode (.outLevelHigh c)) ∧
    (exec (.outEnable c e) s = .next { s with
      ev := s.ev ++ [.outEnable c e], dev := { s.dev with enabled := s.dev.enabled.set c e } } ∧
      (Event.outEnable c e).word = encode (.outEnable c e))

/-- R46, R54: the ICC words (the spec's own decision D23). That the model keeps the capture's counter and enable in
its state is the model's choice (log 7), and that the word alone leaves `PHASE` is too (log 25). -/
def Obligations.CaptureWordsCommandTheCapture : Prop :=
  ∀ (s : State) (e : Bool),
    (exec .icReset s = .next { s with ev := s.ev ++ [.icReset], dev := { s.dev with icCount := 0 } } ∧
      Event.icReset.word = encode .icReset) ∧
    (exec (.icEnable e) s = .next { s with ev := s.ev ++ [.icEnable e], dev := { s.dev with icEnabled := e } } ∧
      (Event.icEnable e).word = encode (.icEnable e))

/-! ### The whole machine -/

/-- The invariant holds right after reset, for every configuration record; and the peripheral's levels agree with `LS`
at the model's reset state, whose peripherals are as the boot requirement R121 asks (log 7). -/
def Obligations.InvariantHoldsAtReset : Prop :=
  State.reset.Inv ∧ levelsAgree State.reset ∧ ∀ (p : Params) (d : Devices) (e : Env), (State.resetWith p d e).Inv

/-- R135 and the invariant: every step from a state that meets it answers a next state, which meets it. -/
def Obligations.EveryStepKeepsTheInvariant : Prop :=
  ∀ s : State, s.Inv → ∃ t : State, step s = .next t ∧ t.Inv

/-- R23, R121: the peripheral's levels are the ones `LS` believes, and every step but a reset keeps it so. An
inference of the spec's own; the levels are kept in the state by the model's choice (log 7). -/
def Obligations.EveryStepKeepsTheLevelsInAgreement : Prop :=
  ∀ s t : State, levelsAgree s → s.issue = none → s.rstAnswer = none → step s = .next t → levelsAgree t

/-- R97, R135: from SAMPLE, four steps without reset make one control cycle, and lead to SAMPLE. An inference of the
spec's own. -/
def Obligations.FourStepsMakeACycle : Prop :=
  ∀ s : State, s.Inv → s.phase = .sample → quietRst 4 s →
    ∃ a b c t : State, step s = .next a ∧ step a = .next b ∧ step b = .next c ∧ step c = .next t ∧
      a.phase = .filter ∧ b.phase = .decode ∧ c.phase = .apply ∧ t.phase = .sample ∧
      Host.Core.run Sys2Proof.core 4 s = .next t

/-- R119: with the clamp and the consensus filter, where width 0 lies in or below bucket 0, a cycle from a state whose
controlled lights are all Off, and which leaves `STABLE` at 0, makes no level write and changes no light or timer. An
inference of the spec's own. -/
def Obligations.NothingIsLitBeforeConsensus : Prop :=
  ∀ s t : State, s.Inv → s.phase = .sample → quietRst 4 s → s.par.filterMode = .consensus → s.par.clampId = true →
    idRaw s.par 0 ≤ 0 → s.ls = { ChannelFile.all LightState.off with frontBlue := .on } →
    Host.Core.run Sys2Proof.core 4 s = .next t → t.stable = 0 →
    t.ls = s.ls ∧ t.bt = s.bt ∧ t.cfg = 0 ∧ levelTrace t.ev = levelTrace s.ev

/-- R5, R11 to R24: which operations can change which register. -/
def Obligations.EachRegisterHasItsWriters : Prop :=
  ∀ (i : Instr) (s t : State), exec i s = .next t →
    t.par = s.par ∧
    (i ≠ .sample → t.raw = s.raw) ∧
    (i ≠ .filterCs → i ≠ .filterMa → t.width = s.width) ∧
    (i ≠ .decode → t.id = s.id ∧ t.cfg = s.cfg) ∧
    (i ≠ .init → t.fault = s.fault) ∧
    (i ≠ .filterCs → t.csBuf = s.csBuf ∧ t.csIdx = s.csIdx ∧ t.stable = s.stable) ∧
    (i ≠ .filterMa → t.maBuf = s.maBuf ∧ t.maIdx = s.maIdx ∧ t.maSum = s.maSum) ∧
    (writesLights i = false → t.ls = s.ls) ∧
    (writesTimers i = false → t.bt = s.bt) ∧
    t.issue = s.issue

/-- R11, R17: no operation reads `ID` or `FAULT`: two executions that differ in them alone differ at the end in them
alone, and each of the two registers is then either the same in both or as its execution found it. -/
def Obligations.IdAndFaultAreNeverRead : Prop :=
  ∀ (i : Instr) (s : State) (v : BucketId) (f : FaultCode),
    outcomesAgree
      (fun t t' => t = { t' with id := t.id, fault := t.fault } ∧
        (t.id = t'.id ∨ (t.id = s.id ∧ t'.id = v)) ∧
        (t.fault = t'.fault ∨ (t.fault = s.fault ∧ t'.fault = f)))
      (exec i s) (exec i { s with id := v, fault := f })

/-- R26: no operation reads the event trace; an operation only appends to it. -/
def Obligations.TraceIsAppendOnlyAndUnread : Prop :=
  ∀ (i : Instr) (s : State) (e : List Event),
    outcomesAgree (fun t t' => t = { t' with ev := t.ev } ∧ ∃ l : List Event, t.ev = s.ev ++ l ∧ t'.ev = e ++ l)
      (exec i s) (exec i { s with ev := e })

/-- R38: SAMPLE, FILTER and DECODE neither read nor write the light states and the blink timers. -/
def Obligations.DataFlowsOneWay : Prop :=
  ∀ (i : Instr) (s : State) (a : ChannelFile LightState) (b : ChannelFile BlinkTimer),
    i = .sample ∨ i = .filterCs ∨ i = .filterMa ∨ i = .decode →
    outcomesAgree (fun t t' => t = { t' with ls := s.ls, bt := s.bt } ∧ t'.ls = a ∧ t'.bt = b)
      (exec i s) (exec i { s with ls := a, bt := b })

/-- R43, R44, R45, R46: every event an operation appends drives a word that decodes to a port operation, so no
unlisted level, channel or command is ever emitted. The codes are the spec's own decisions D12, D13, D14, D23. -/
def Obligations.OnlyListedWordsAreEmitted : Prop :=
  ∀ (i : Instr) (s t : State) (mode : FilterMode), exec i s = .next t →
    ∃ l : List Event, t.ev = s.ev ++ l ∧ ∀ e ∈ l, ∃ j : Instr, decode mode e.word = .ok j ∧ encode j = e.word
end

