-- ==== Sys2Proof/Laws/State.lean ====
section
/-! SUPPORT. One lemma per field per named update, each true by unfolding: later proofs never unfold an update. -/

namespace Sys2Proof.Machine

/-! ### setLight -/

@[simp] theorem setLight_phase (c : Channel) (v : LightState) (s : State) : (setLight c v s).phase = s.phase := rfl
@[simp] theorem setLight_fault (c : Channel) (v : LightState) (s : State) : (setLight c v s).fault = s.fault := rfl
@[simp] theorem setLight_raw (c : Channel) (v : LightState) (s : State) : (setLight c v s).raw = s.raw := rfl
@[simp] theorem setLight_width (c : Channel) (v : LightState) (s : State) : (setLight c v s).width = s.width := rfl
@[simp] theorem setLight_id (c : Channel) (v : LightState) (s : State) : (setLight c v s).id = s.id := rfl
@[simp] theorem setLight_cfg (c : Channel) (v : LightState) (s : State) : (setLight c v s).cfg = s.cfg := rfl
@[simp] theorem setLight_csBuf (c : Channel) (v : LightState) (s : State) : (setLight c v s).csBuf = s.csBuf := rfl
@[simp] theorem setLight_csIdx (c : Channel) (v : LightState) (s : State) : (setLight c v s).csIdx = s.csIdx := rfl
@[simp] theorem setLight_stable (c : Channel) (v : LightState) (s : State) : (setLight c v s).stable = s.stable := rfl
@[simp] theorem setLight_maBuf (c : Channel) (v : LightState) (s : State) : (setLight c v s).maBuf = s.maBuf := rfl
@[simp] theorem setLight_maIdx (c : Channel) (v : LightState) (s : State) : (setLight c v s).maIdx = s.maIdx := rfl
@[simp] theorem setLight_maSum (c : Channel) (v : LightState) (s : State) : (setLight c v s).maSum = s.maSum := rfl
@[simp] theorem setLight_ls (c : Channel) (v : LightState) (s : State) : (setLight c v s).ls = s.ls.set c v := rfl
@[simp] theorem setLight_bt (c : Channel) (v : LightState) (s : State) : (setLight c v s).bt = s.bt := rfl
@[simp] theorem setLight_ev (c : Channel) (v : LightState) (s : State) : (setLight c v s).ev = s.ev := rfl
@[simp] theorem setLight_dev (c : Channel) (v : LightState) (s : State) : (setLight c v s).dev = s.dev := rfl
@[simp] theorem setLight_env (c : Channel) (v : LightState) (s : State) : (setLight c v s).env = s.env := rfl
@[simp] theorem setLight_par (c : Channel) (v : LightState) (s : State) : (setLight c v s).par = s.par := rfl
@[simp] theorem setLight_issue (c : Channel) (v : LightState) (s : State) : (setLight c v s).issue = s.issue := rfl

/-! ### setTimer -/

@[simp] theorem setTimer_phase (t : Channel) (v : BlinkTimer) (s : State) : (setTimer t v s).phase = s.phase := rfl
@[simp] theorem setTimer_fault (t : Channel) (v : BlinkTimer) (s : State) : (setTimer t v s).fault = s.fault := rfl
@[simp] theorem setTimer_raw (t : Channel) (v : BlinkTimer) (s : State) : (setTimer t v s).raw = s.raw := rfl
@[simp] theorem setTimer_width (t : Channel) (v : BlinkTimer) (s : State) : (setTimer t v s).width = s.width := rfl
@[simp] theorem setTimer_id (t : Channel) (v : BlinkTimer) (s : State) : (setTimer t v s).id = s.id := rfl
@[simp] theorem setTimer_cfg (t : Channel) (v : BlinkTimer) (s : State) : (setTimer t v s).cfg = s.cfg := rfl
@[simp] theorem setTimer_csBuf (t : Channel) (v : BlinkTimer) (s : State) : (setTimer t v s).csBuf = s.csBuf := rfl
@[simp] theorem setTimer_csIdx (t : Channel) (v : BlinkTimer) (s : State) : (setTimer t v s).csIdx = s.csIdx := rfl
@[simp] theorem setTimer_stable (t : Channel) (v : BlinkTimer) (s : State) : (setTimer t v s).stable = s.stable := rfl
@[simp] theorem setTimer_maBuf (t : Channel) (v : BlinkTimer) (s : State) : (setTimer t v s).maBuf = s.maBuf := rfl
@[simp] theorem setTimer_maIdx (t : Channel) (v : BlinkTimer) (s : State) : (setTimer t v s).maIdx = s.maIdx := rfl
@[simp] theorem setTimer_maSum (t : Channel) (v : BlinkTimer) (s : State) : (setTimer t v s).maSum = s.maSum := rfl
@[simp] theorem setTimer_ls (t : Channel) (v : BlinkTimer) (s : State) : (setTimer t v s).ls = s.ls := rfl
@[simp] theorem setTimer_bt (t : Channel) (v : BlinkTimer) (s : State) : (setTimer t v s).bt = s.bt.set t v := rfl
@[simp] theorem setTimer_ev (t : Channel) (v : BlinkTimer) (s : State) : (setTimer t v s).ev = s.ev := rfl
@[simp] theorem setTimer_dev (t : Channel) (v : BlinkTimer) (s : State) : (setTimer t v s).dev = s.dev := rfl
@[simp] theorem setTimer_env (t : Channel) (v : BlinkTimer) (s : State) : (setTimer t v s).env = s.env := rfl
@[simp] theorem setTimer_par (t : Channel) (v : BlinkTimer) (s : State) : (setTimer t v s).par = s.par := rfl
@[simp] theorem setTimer_issue (t : Channel) (v : BlinkTimer) (s : State) : (setTimer t v s).issue = s.issue := rfl

/-! ### goto -/

@[simp] theorem goto_phase (p : Phase) (s : State) : (goto p s).phase = p := rfl
@[simp] theorem goto_fault (p : Phase) (s : State) : (goto p s).fault = s.fault := rfl
@[simp] theorem goto_raw (p : Phase) (s : State) : (goto p s).raw = s.raw := rfl
@[simp] theorem goto_width (p : Phase) (s : State) : (goto p s).width = s.width := rfl
@[simp] theorem goto_id (p : Phase) (s : State) : (goto p s).id = s.id := rfl
@[simp] theorem goto_cfg (p : Phase) (s : State) : (goto p s).cfg = s.cfg := rfl
@[simp] theorem goto_csBuf (p : Phase) (s : State) : (goto p s).csBuf = s.csBuf := rfl
@[simp] theorem goto_csIdx (p : Phase) (s : State) : (goto p s).csIdx = s.csIdx := rfl
@[simp] theorem goto_stable (p : Phase) (s : State) : (goto p s).stable = s.stable := rfl
@[simp] theorem goto_maBuf (p : Phase) (s : State) : (goto p s).maBuf = s.maBuf := rfl
@[simp] theorem goto_maIdx (p : Phase) (s : State) : (goto p s).maIdx = s.maIdx := rfl
@[simp] theorem goto_maSum (p : Phase) (s : State) : (goto p s).maSum = s.maSum := rfl
@[simp] theorem goto_ls (p : Phase) (s : State) : (goto p s).ls = s.ls := rfl
@[simp] theorem goto_bt (p : Phase) (s : State) : (goto p s).bt = s.bt := rfl
@[simp] theorem goto_ev (p : Phase) (s : State) : (goto p s).ev = s.ev := rfl
@[simp] theorem goto_dev (p : Phase) (s : State) : (goto p s).dev = s.dev := rfl
@[simp] theorem goto_env (p : Phase) (s : State) : (goto p s).env = s.env := rfl
@[simp] theorem goto_par (p : Phase) (s : State) : (goto p s).par = s.par := rfl
@[simp] theorem goto_issue (p : Phase) (s : State) : (goto p s).issue = s.issue := rfl

/-! ### tookCap -/

@[simp] theorem tookCap_phase (s : State) : (tookCap s).phase = s.phase := rfl
@[simp] theorem tookCap_fault (s : State) : (tookCap s).fault = s.fault := rfl
@[simp] theorem tookCap_raw (s : State) : (tookCap s).raw = s.raw := rfl
@[simp] theorem tookCap_width (s : State) : (tookCap s).width = s.width := rfl
@[simp] theorem tookCap_id (s : State) : (tookCap s).id = s.id := rfl
@[simp] theorem tookCap_cfg (s : State) : (tookCap s).cfg = s.cfg := rfl
@[simp] theorem tookCap_csBuf (s : State) : (tookCap s).csBuf = s.csBuf := rfl
@[simp] theorem tookCap_csIdx (s : State) : (tookCap s).csIdx = s.csIdx := rfl
@[simp] theorem tookCap_stable (s : State) : (tookCap s).stable = s.stable := rfl
@[simp] theorem tookCap_maBuf (s : State) : (tookCap s).maBuf = s.maBuf := rfl
@[simp] theorem tookCap_maIdx (s : State) : (tookCap s).maIdx = s.maIdx := rfl
@[simp] theorem tookCap_maSum (s : State) : (tookCap s).maSum = s.maSum := rfl
@[simp] theorem tookCap_ls (s : State) : (tookCap s).ls = s.ls := rfl
@[simp] theorem tookCap_bt (s : State) : (tookCap s).bt = s.bt := rfl
@[simp] theorem tookCap_ev (s : State) : (tookCap s).ev = s.ev := rfl
@[simp] theorem tookCap_dev (s : State) : (tookCap s).dev = s.dev := rfl
@[simp] theorem tookCap_env (s : State) : (tookCap s).env = { s.env with cap := s.env.cap.advance } := rfl
@[simp] theorem tookCap_par (s : State) : (tookCap s).par = s.par := rfl
@[simp] theorem tookCap_issue (s : State) : (tookCap s).issue = s.issue := rfl

/-! ### tookSample -/

@[simp] theorem tookSample_phase (s : State) : (tookSample s).phase = s.phase := rfl
@[simp] theorem tookSample_fault (s : State) : (tookSample s).fault = s.fault := rfl
@[simp] theorem tookSample_raw (s : State) : (tookSample s).raw = s.raw := rfl
@[simp] theorem tookSample_width (s : State) : (tookSample s).width = s.width := rfl
@[simp] theorem tookSample_id (s : State) : (tookSample s).id = s.id := rfl
@[simp] theorem tookSample_cfg (s : State) : (tookSample s).cfg = s.cfg := rfl
@[simp] theorem tookSample_csBuf (s : State) : (tookSample s).csBuf = s.csBuf := rfl
@[simp] theorem tookSample_csIdx (s : State) : (tookSample s).csIdx = s.csIdx := rfl
@[simp] theorem tookSample_stable (s : State) : (tookSample s).stable = s.stable := rfl
@[simp] theorem tookSample_maBuf (s : State) : (tookSample s).maBuf = s.maBuf := rfl
@[simp] theorem tookSample_maIdx (s : State) : (tookSample s).maIdx = s.maIdx := rfl
@[simp] theorem tookSample_maSum (s : State) : (tookSample s).maSum = s.maSum := rfl
@[simp] theorem tookSample_ls (s : State) : (tookSample s).ls = s.ls := rfl
@[simp] theorem tookSample_bt (s : State) : (tookSample s).bt = s.bt := rfl
@[simp] theorem tookSample_ev (s : State) : (tookSample s).ev = s.ev := rfl
@[simp] theorem tookSample_dev (s : State) : (tookSample s).dev = s.dev := rfl
@[simp] theorem tookSample_env (s : State) : (tookSample s).env = { s.env with icElapsed := s.env.icElapsed.advance } := rfl
@[simp] theorem tookSample_par (s : State) : (tookSample s).par = s.par := rfl
@[simp] theorem tookSample_issue (s : State) : (tookSample s).issue = s.issue := rfl

/-! ### tookClock -/

@[simp] theorem tookClock_phase (s : State) : (tookClock s).phase = s.phase := rfl
@[simp] theorem tookClock_fault (s : State) : (tookClock s).fault = s.fault := rfl
@[simp] theorem tookClock_raw (s : State) : (tookClock s).raw = s.raw := rfl
@[simp] theorem tookClock_width (s : State) : (tookClock s).width = s.width := rfl
@[simp] theorem tookClock_id (s : State) : (tookClock s).id = s.id := rfl
@[simp] theorem tookClock_cfg (s : State) : (tookClock s).cfg = s.cfg := rfl
@[simp] theorem tookClock_csBuf (s : State) : (tookClock s).csBuf = s.csBuf := rfl
@[simp] theorem tookClock_csIdx (s : State) : (tookClock s).csIdx = s.csIdx := rfl
@[simp] theorem tookClock_stable (s : State) : (tookClock s).stable = s.stable := rfl
@[simp] theorem tookClock_maBuf (s : State) : (tookClock s).maBuf = s.maBuf := rfl
@[simp] theorem tookClock_maIdx (s : State) : (tookClock s).maIdx = s.maIdx := rfl
@[simp] theorem tookClock_maSum (s : State) : (tookClock s).maSum = s.maSum := rfl
@[simp] theorem tookClock_ls (s : State) : (tookClock s).ls = s.ls := rfl
@[simp] theorem tookClock_bt (s : State) : (tookClock s).bt = s.bt := rfl
@[simp] theorem tookClock_ev (s : State) : (tookClock s).ev = s.ev := rfl
@[simp] theorem tookClock_dev (s : State) : (tookClock s).dev = s.dev := rfl
@[simp] theorem tookClock_env (s : State) : (tookClock s).env = { s.env with now := s.env.now.advance } := rfl
@[simp] theorem tookClock_par (s : State) : (tookClock s).par = s.par := rfl
@[simp] theorem tookClock_issue (s : State) : (tookClock s).issue = s.issue := rfl

/-! ### tookDraw -/

@[simp] theorem tookDraw_phase (s : State) : (tookDraw s).phase = s.phase := rfl
@[simp] theorem tookDraw_fault (s : State) : (tookDraw s).fault = s.fault := rfl
@[simp] theorem tookDraw_raw (s : State) : (tookDraw s).raw = s.raw := rfl
@[simp] theorem tookDraw_width (s : State) : (tookDraw s).width = s.width := rfl
@[simp] theorem tookDraw_id (s : State) : (tookDraw s).id = s.id := rfl
@[simp] theorem tookDraw_cfg (s : State) : (tookDraw s).cfg = s.cfg := rfl
@[simp] theorem tookDraw_csBuf (s : State) : (tookDraw s).csBuf = s.csBuf := rfl
@[simp] theorem tookDraw_csIdx (s : State) : (tookDraw s).csIdx = s.csIdx := rfl
@[simp] theorem tookDraw_stable (s : State) : (tookDraw s).stable = s.stable := rfl
@[simp] theorem tookDraw_maBuf (s : State) : (tookDraw s).maBuf = s.maBuf := rfl
@[simp] theorem tookDraw_maIdx (s : State) : (tookDraw s).maIdx = s.maIdx := rfl
@[simp] theorem tookDraw_maSum (s : State) : (tookDraw s).maSum = s.maSum := rfl
@[simp] theorem tookDraw_ls (s : State) : (tookDraw s).ls = s.ls := rfl
@[simp] theorem tookDraw_bt (s : State) : (tookDraw s).bt = s.bt := rfl
@[simp] theorem tookDraw_ev (s : State) : (tookDraw s).ev = s.ev := rfl
@[simp] theorem tookDraw_dev (s : State) : (tookDraw s).dev = s.dev := rfl
@[simp] theorem tookDraw_env (s : State) : (tookDraw s).env = { s.env with draw := s.env.draw.advance } := rfl
@[simp] theorem tookDraw_par (s : State) : (tookDraw s).par = s.par := rfl
@[simp] theorem tookDraw_issue (s : State) : (tookDraw s).issue = s.issue := rfl

/-! ### tookRst -/

@[simp] theorem tookRst_phase (s : State) : (tookRst s).phase = s.phase := rfl
@[simp] theorem tookRst_fault (s : State) : (tookRst s).fault = s.fault := rfl
@[simp] theorem tookRst_raw (s : State) : (tookRst s).raw = s.raw := rfl
@[simp] theorem tookRst_width (s : State) : (tookRst s).width = s.width := rfl
@[simp] theorem tookRst_id (s : State) : (tookRst s).id = s.id := rfl
@[simp] theorem tookRst_cfg (s : State) : (tookRst s).cfg = s.cfg := rfl
@[simp] theorem tookRst_csBuf (s : State) : (tookRst s).csBuf = s.csBuf := rfl
@[simp] theorem tookRst_csIdx (s : State) : (tookRst s).csIdx = s.csIdx := rfl
@[simp] theorem tookRst_stable (s : State) : (tookRst s).stable = s.stable := rfl
@[simp] theorem tookRst_maBuf (s : State) : (tookRst s).maBuf = s.maBuf := rfl
@[simp] theorem tookRst_maIdx (s : State) : (tookRst s).maIdx = s.maIdx := rfl
@[simp] theorem tookRst_maSum (s : State) : (tookRst s).maSum = s.maSum := rfl
@[simp] theorem tookRst_ls (s : State) : (tookRst s).ls = s.ls := rfl
@[simp] theorem tookRst_bt (s : State) : (tookRst s).bt = s.bt := rfl
@[simp] theorem tookRst_ev (s : State) : (tookRst s).ev = s.ev := rfl
@[simp] theorem tookRst_dev (s : State) : (tookRst s).dev = s.dev := rfl
@[simp] theorem tookRst_env (s : State) : (tookRst s).env = { s.env with rst := s.env.rst.advance } := rfl
@[simp] theorem tookRst_par (s : State) : (tookRst s).par = s.par := rfl
@[simp] theorem tookRst_issue (s : State) : (tookRst s).issue = s.issue := rfl

/-! ### fetched -/

@[simp] theorem fetched_phase (s : State) : (fetched s).phase = s.phase := rfl
@[simp] theorem fetched_fault (s : State) : (fetched s).fault = s.fault := rfl
@[simp] theorem fetched_raw (s : State) : (fetched s).raw = s.raw := rfl
@[simp] theorem fetched_width (s : State) : (fetched s).width = s.width := rfl
@[simp] theorem fetched_id (s : State) : (fetched s).id = s.id := rfl
@[simp] theorem fetched_cfg (s : State) : (fetched s).cfg = s.cfg := rfl
@[simp] theorem fetched_csBuf (s : State) : (fetched s).csBuf = s.csBuf := rfl
@[simp] theorem fetched_csIdx (s : State) : (fetched s).csIdx = s.csIdx := rfl
@[simp] theorem fetched_stable (s : State) : (fetched s).stable = s.stable := rfl
@[simp] theorem fetched_maBuf (s : State) : (fetched s).maBuf = s.maBuf := rfl
@[simp] theorem fetched_maIdx (s : State) : (fetched s).maIdx = s.maIdx := rfl
@[simp] theorem fetched_maSum (s : State) : (fetched s).maSum = s.maSum := rfl
@[simp] theorem fetched_ls (s : State) : (fetched s).ls = s.ls := rfl
@[simp] theorem fetched_bt (s : State) : (fetched s).bt = s.bt := rfl
@[simp] theorem fetched_ev (s : State) : (fetched s).ev = s.ev := rfl
@[simp] theorem fetched_dev (s : State) : (fetched s).dev = s.dev := rfl
@[simp] theorem fetched_env (s : State) : (fetched s).env = { s.env with rst := s.env.rst.advance } := rfl
@[simp] theorem fetched_par (s : State) : (fetched s).par = s.par := rfl
@[simp] theorem fetched_issue (s : State) : (fetched s).issue = none := rfl

/-! ### readRaw -/

@[simp] theorem readRaw_phase (s : State) : (readRaw s).phase = s.phase := rfl
@[simp] theorem readRaw_fault (s : State) : (readRaw s).fault = s.fault := rfl
@[simp] theorem readRaw_raw (s : State) : (readRaw s).raw = icRead s := rfl
@[simp] theorem readRaw_width (s : State) : (readRaw s).width = s.width := rfl
@[simp] theorem readRaw_id (s : State) : (readRaw s).id = s.id := rfl
@[simp] theorem readRaw_cfg (s : State) : (readRaw s).cfg = s.cfg := rfl
@[simp] theorem readRaw_csBuf (s : State) : (readRaw s).csBuf = s.csBuf := rfl
@[simp] theorem readRaw_csIdx (s : State) : (readRaw s).csIdx = s.csIdx := rfl
@[simp] theorem readRaw_stable (s : State) : (readRaw s).stable = s.stable := rfl
@[simp] theorem readRaw_maBuf (s : State) : (readRaw s).maBuf = s.maBuf := rfl
@[simp] theorem readRaw_maIdx (s : State) : (readRaw s).maIdx = s.maIdx := rfl
@[simp] theorem readRaw_maSum (s : State) : (readRaw s).maSum = s.maSum := rfl
@[simp] theorem readRaw_ls (s : State) : (readRaw s).ls = s.ls := rfl
@[simp] theorem readRaw_bt (s : State) : (readRaw s).bt = s.bt := rfl
@[simp] theorem readRaw_ev (s : State) : (readRaw s).ev = s.ev := rfl
@[simp] theorem readRaw_dev (s : State) : (readRaw s).dev = s.dev := rfl
@[simp] theorem readRaw_env (s : State) : (readRaw s).env = s.env := rfl
@[simp] theorem readRaw_par (s : State) : (readRaw s).par = s.par := rfl
@[simp] theorem readRaw_issue (s : State) : (readRaw s).issue = s.issue := rfl

/-! ### writeId -/

@[simp] theorem writeId_phase (idx : Int) (s : State) : (writeId idx s).phase = s.phase := rfl
@[simp] theorem writeId_fault (idx : Int) (s : State) : (writeId idx s).fault = s.fault := rfl
@[simp] theorem writeId_raw (idx : Int) (s : State) : (writeId idx s).raw = s.raw := rfl
@[simp] theorem writeId_width (idx : Int) (s : State) : (writeId idx s).width = s.width := rfl
@[simp] theorem writeId_id (idx : Int) (s : State) : (writeId idx s).id = BitVec.ofInt 16 idx := rfl
@[simp] theorem writeId_cfg (idx : Int) (s : State) : (writeId idx s).cfg = s.cfg := rfl
@[simp] theorem writeId_csBuf (idx : Int) (s : State) : (writeId idx s).csBuf = s.csBuf := rfl
@[simp] theorem writeId_csIdx (idx : Int) (s : State) : (writeId idx s).csIdx = s.csIdx := rfl
@[simp] theorem writeId_stable (idx : Int) (s : State) : (writeId idx s).stable = s.stable := rfl
@[simp] theorem writeId_maBuf (idx : Int) (s : State) : (writeId idx s).maBuf = s.maBuf := rfl
@[simp] theorem writeId_maIdx (idx : Int) (s : State) : (writeId idx s).maIdx = s.maIdx := rfl
@[simp] theorem writeId_maSum (idx : Int) (s : State) : (writeId idx s).maSum = s.maSum := rfl
@[simp] theorem writeId_ls (idx : Int) (s : State) : (writeId idx s).ls = s.ls := rfl
@[simp] theorem writeId_bt (idx : Int) (s : State) : (writeId idx s).bt = s.bt := rfl
@[simp] theorem writeId_ev (idx : Int) (s : State) : (writeId idx s).ev = s.ev := rfl
@[simp] theorem writeId_dev (idx : Int) (s : State) : (writeId idx s).dev = s.dev := rfl
@[simp] theorem writeId_env (idx : Int) (s : State) : (writeId idx s).env = s.env := rfl
@[simp] theorem writeId_par (idx : Int) (s : State) : (writeId idx s).par = s.par := rfl
@[simp] theorem writeId_issue (idx : Int) (s : State) : (writeId idx s).issue = s.issue := rfl

/-! ### emit -/

@[simp] theorem emit_phase (e : Event) (s : State) : (emit e s).phase = s.phase := rfl
@[simp] theorem emit_fault (e : Event) (s : State) : (emit e s).fault = s.fault := rfl
@[simp] theorem emit_raw (e : Event) (s : State) : (emit e s).raw = s.raw := rfl
@[simp] theorem emit_width (e : Event) (s : State) : (emit e s).width = s.width := rfl
@[simp] theorem emit_id (e : Event) (s : State) : (emit e s).id = s.id := rfl
@[simp] theorem emit_cfg (e : Event) (s : State) : (emit e s).cfg = s.cfg := rfl
@[simp] theorem emit_csBuf (e : Event) (s : State) : (emit e s).csBuf = s.csBuf := rfl
@[simp] theorem emit_csIdx (e : Event) (s : State) : (emit e s).csIdx = s.csIdx := rfl
@[simp] theorem emit_stable (e : Event) (s : State) : (emit e s).stable = s.stable := rfl
@[simp] theorem emit_maBuf (e : Event) (s : State) : (emit e s).maBuf = s.maBuf := rfl
@[simp] theorem emit_maIdx (e : Event) (s : State) : (emit e s).maIdx = s.maIdx := rfl
@[simp] theorem emit_maSum (e : Event) (s : State) : (emit e s).maSum = s.maSum := rfl
@[simp] theorem emit_ls (e : Event) (s : State) : (emit e s).ls = s.ls := rfl
@[simp] theorem emit_bt (e : Event) (s : State) : (emit e s).bt = s.bt := rfl
@[simp] theorem emit_ev (e : Event) (s : State) : (emit e s).ev = s.ev ++ [e] := rfl
@[simp] theorem emit_dev (e : Event) (s : State) : (emit e s).dev = s.dev := rfl
@[simp] theorem emit_env (e : Event) (s : State) : (emit e s).env = s.env := rfl
@[simp] theorem emit_par (e : Event) (s : State) : (emit e s).par = s.par := rfl
@[simp] theorem emit_issue (e : Event) (s : State) : (emit e s).issue = s.issue := rfl

/-! ### icReset -/

@[simp] theorem icReset_phase (s : State) : (icReset s).phase = s.phase := rfl
@[simp] theorem icReset_fault (s : State) : (icReset s).fault = s.fault := rfl
@[simp] theorem icReset_raw (s : State) : (icReset s).raw = s.raw := rfl
@[simp] theorem icReset_width (s : State) : (icReset s).width = s.width := rfl
@[simp] theorem icReset_id (s : State) : (icReset s).id = s.id := rfl
@[simp] theorem icReset_cfg (s : State) : (icReset s).cfg = s.cfg := rfl
@[simp] theorem icReset_csBuf (s : State) : (icReset s).csBuf = s.csBuf := rfl
@[simp] theorem icReset_csIdx (s : State) : (icReset s).csIdx = s.csIdx := rfl
@[simp] theorem icReset_stable (s : State) : (icReset s).stable = s.stable := rfl
@[simp] theorem icReset_maBuf (s : State) : (icReset s).maBuf = s.maBuf := rfl
@[simp] theorem icReset_maIdx (s : State) : (icReset s).maIdx = s.maIdx := rfl
@[simp] theorem icReset_maSum (s : State) : (icReset s).maSum = s.maSum := rfl
@[simp] theorem icReset_ls (s : State) : (icReset s).ls = s.ls := rfl
@[simp] theorem icReset_bt (s : State) : (icReset s).bt = s.bt := rfl
@[simp] theorem icReset_ev (s : State) : (icReset s).ev = s.ev ++ [.icReset] := rfl
@[simp] theorem icReset_dev (s : State) : (icReset s).dev = { s.dev with icCount := 0 } := rfl
@[simp] theorem icReset_env (s : State) : (icReset s).env = s.env := rfl
@[simp] theorem icReset_par (s : State) : (icReset s).par = s.par := rfl
@[simp] theorem icReset_issue (s : State) : (icReset s).issue = s.issue := rfl

/-! ### icEnable -/

@[simp] theorem icEnable_phase (b : Bool) (s : State) : (icEnable b s).phase = s.phase := rfl
@[simp] theorem icEnable_fault (b : Bool) (s : State) : (icEnable b s).fault = s.fault := rfl
@[simp] theorem icEnable_raw (b : Bool) (s : State) : (icEnable b s).raw = s.raw := rfl
@[simp] theorem icEnable_width (b : Bool) (s : State) : (icEnable b s).width = s.width := rfl
@[simp] theorem icEnable_id (b : Bool) (s : State) : (icEnable b s).id = s.id := rfl
@[simp] theorem icEnable_cfg (b : Bool) (s : State) : (icEnable b s).cfg = s.cfg := rfl
@[simp] theorem icEnable_csBuf (b : Bool) (s : State) : (icEnable b s).csBuf = s.csBuf := rfl
@[simp] theorem icEnable_csIdx (b : Bool) (s : State) : (icEnable b s).csIdx = s.csIdx := rfl
@[simp] theorem icEnable_stable (b : Bool) (s : State) : (icEnable b s).stable = s.stable := rfl
@[simp] theorem icEnable_maBuf (b : Bool) (s : State) : (icEnable b s).maBuf = s.maBuf := rfl
@[simp] theorem icEnable_maIdx (b : Bool) (s : State) : (icEnable b s).maIdx = s.maIdx := rfl
@[simp] theorem icEnable_maSum (b : Bool) (s : State) : (icEnable b s).maSum = s.maSum := rfl
@[simp] theorem icEnable_ls (b : Bool) (s : State) : (icEnable b s).ls = s.ls := rfl
@[simp] theorem icEnable_bt (b : Bool) (s : State) : (icEnable b s).bt = s.bt := rfl
@[simp] theorem icEnable_ev (b : Bool) (s : State) : (icEnable b s).ev = s.ev ++ [.icEnable b] := rfl
@[simp] theorem icEnable_dev (b : Bool) (s : State) : (icEnable b s).dev = { s.dev with icEnabled := b } := rfl
@[simp] theorem icEnable_env (b : Bool) (s : State) : (icEnable b s).env = s.env := rfl
@[simp] theorem icEnable_par (b : Bool) (s : State) : (icEnable b s).par = s.par := rfl
@[simp] theorem icEnable_issue (b : Bool) (s : State) : (icEnable b s).issue = s.issue := rfl

/-! ### outLevel -/

@[simp] theorem outLevel_phase (c : Channel) (l : Level) (s : State) : (outLevel c l s).phase = s.phase := rfl
@[simp] theorem outLevel_fault (c : Channel) (l : Level) (s : State) : (outLevel c l s).fault = s.fault := rfl
@[simp] theorem outLevel_raw (c : Channel) (l : Level) (s : State) : (outLevel c l s).raw = s.raw := rfl
@[simp] theorem outLevel_width (c : Channel) (l : Level) (s : State) : (outLevel c l s).width = s.width := rfl
@[simp] theorem outLevel_id (c : Channel) (l : Level) (s : State) : (outLevel c l s).id = s.id := rfl
@[simp] theorem outLevel_cfg (c : Channel) (l : Level) (s : State) : (outLevel c l s).cfg = s.cfg := rfl
@[simp] theorem outLevel_csBuf (c : Channel) (l : Level) (s : State) : (outLevel c l s).csBuf = s.csBuf := rfl
@[simp] theorem outLevel_csIdx (c : Channel) (l : Level) (s : State) : (outLevel c l s).csIdx = s.csIdx := rfl
@[simp] theorem outLevel_stable (c : Channel) (l : Level) (s : State) : (outLevel c l s).stable = s.stable := rfl
@[simp] theorem outLevel_maBuf (c : Channel) (l : Level) (s : State) : (outLevel c l s).maBuf = s.maBuf := rfl
@[simp] theorem outLevel_maIdx (c : Channel) (l : Level) (s : State) : (outLevel c l s).maIdx = s.maIdx := rfl
@[simp] theorem outLevel_maSum (c : Channel) (l : Level) (s : State) : (outLevel c l s).maSum = s.maSum := rfl
@[simp] theorem outLevel_ls (c : Channel) (l : Level) (s : State) : (outLevel c l s).ls = s.ls := rfl
@[simp] theorem outLevel_bt (c : Channel) (l : Level) (s : State) : (outLevel c l s).bt = s.bt := rfl
@[simp] theorem outLevel_ev (c : Channel) (l : Level) (s : State) : (outLevel c l s).ev = s.ev ++ [.outLevel c l] := rfl
@[simp] theorem outLevel_dev (c : Channel) (l : Level) (s : State) : (outLevel c l s).dev = { s.dev with level := s.dev.level.set c l } := rfl
@[simp] theorem outLevel_env (c : Channel) (l : Level) (s : State) : (outLevel c l s).env = s.env := rfl
@[simp] theorem outLevel_par (c : Channel) (l : Level) (s : State) : (outLevel c l s).par = s.par := rfl
@[simp] theorem outLevel_issue (c : Channel) (l : Level) (s : State) : (outLevel c l s).issue = s.issue := rfl

/-! ### outEnable -/

@[simp] theorem outEnable_phase (c : Channel) (b : Bool) (s : State) : (outEnable c b s).phase = s.phase := rfl
@[simp] theorem outEnable_fault (c : Channel) (b : Bool) (s : State) : (outEnable c b s).fault = s.fault := rfl
@[simp] theorem outEnable_raw (c : Channel) (b : Bool) (s : State) : (outEnable c b s).raw = s.raw := rfl
@[simp] theorem outEnable_width (c : Channel) (b : Bool) (s : State) : (outEnable c b s).width = s.width := rfl
@[simp] theorem outEnable_id (c : Channel) (b : Bool) (s : State) : (outEnable c b s).id = s.id := rfl
@[simp] theorem outEnable_cfg (c : Channel) (b : Bool) (s : State) : (outEnable c b s).cfg = s.cfg := rfl
@[simp] theorem outEnable_csBuf (c : Channel) (b : Bool) (s : State) : (outEnable c b s).csBuf = s.csBuf := rfl
@[simp] theorem outEnable_csIdx (c : Channel) (b : Bool) (s : State) : (outEnable c b s).csIdx = s.csIdx := rfl
@[simp] theorem outEnable_stable (c : Channel) (b : Bool) (s : State) : (outEnable c b s).stable = s.stable := rfl
@[simp] theorem outEnable_maBuf (c : Channel) (b : Bool) (s : State) : (outEnable c b s).maBuf = s.maBuf := rfl
@[simp] theorem outEnable_maIdx (c : Channel) (b : Bool) (s : State) : (outEnable c b s).maIdx = s.maIdx := rfl
@[simp] theorem outEnable_maSum (c : Channel) (b : Bool) (s : State) : (outEnable c b s).maSum = s.maSum := rfl
@[simp] theorem outEnable_ls (c : Channel) (b : Bool) (s : State) : (outEnable c b s).ls = s.ls := rfl
@[simp] theorem outEnable_bt (c : Channel) (b : Bool) (s : State) : (outEnable c b s).bt = s.bt := rfl
@[simp] theorem outEnable_ev (c : Channel) (b : Bool) (s : State) : (outEnable c b s).ev = s.ev ++ [.outEnable c b] := rfl
@[simp] theorem outEnable_dev (c : Channel) (b : Bool) (s : State) : (outEnable c b s).dev = { s.dev with enabled := s.dev.enabled.set c b } := rfl
@[simp] theorem outEnable_env (c : Channel) (b : Bool) (s : State) : (outEnable c b s).env = s.env := rfl
@[simp] theorem outEnable_par (c : Channel) (b : Bool) (s : State) : (outEnable c b s).par = s.par := rfl
@[simp] theorem outEnable_issue (c : Channel) (b : Bool) (s : State) : (outEnable c b s).issue = s.issue := rfl

/-! ### memWrite_cs -/

@[simp] theorem memWrite_cs_phase (i : Nat) (v : Sample) (s : State) : (memWrite .cs i v s).phase = s.phase := rfl
@[simp] theorem memWrite_cs_fault (i : Nat) (v : Sample) (s : State) : (memWrite .cs i v s).fault = s.fault := rfl
@[simp] theorem memWrite_cs_raw (i : Nat) (v : Sample) (s : State) : (memWrite .cs i v s).raw = s.raw := rfl
@[simp] theorem memWrite_cs_width (i : Nat) (v : Sample) (s : State) : (memWrite .cs i v s).width = s.width := rfl
@[simp] theorem memWrite_cs_id (i : Nat) (v : Sample) (s : State) : (memWrite .cs i v s).id = s.id := rfl
@[simp] theorem memWrite_cs_cfg (i : Nat) (v : Sample) (s : State) : (memWrite .cs i v s).cfg = s.cfg := rfl
@[simp] theorem memWrite_cs_csBuf (i : Nat) (v : Sample) (s : State) : (memWrite .cs i v s).csBuf = s.csBuf.set i v := rfl
@[simp] theorem memWrite_cs_csIdx (i : Nat) (v : Sample) (s : State) : (memWrite .cs i v s).csIdx = s.csIdx := rfl
@[simp] theorem memWrite_cs_stable (i : Nat) (v : Sample) (s : State) : (memWrite .cs i v s).stable = s.stable := rfl
@[simp] theorem memWrite_cs_maBuf (i : Nat) (v : Sample) (s : State) : (memWrite .cs i v s).maBuf = s.maBuf := rfl
@[simp] theorem memWrite_cs_maIdx (i : Nat) (v : Sample) (s : State) : (memWrite .cs i v s).maIdx = s.maIdx := rfl
@[simp] theorem memWrite_cs_maSum (i : Nat) (v : Sample) (s : State) : (memWrite .cs i v s).maSum = s.maSum := rfl
@[simp] theorem memWrite_cs_ls (i : Nat) (v : Sample) (s : State) : (memWrite .cs i v s).ls = s.ls := rfl
@[simp] theorem memWrite_cs_bt (i : Nat) (v : Sample) (s : State) : (memWrite .cs i v s).bt = s.bt := rfl
@[simp] theorem memWrite_cs_ev (i : Nat) (v : Sample) (s : State) : (memWrite .cs i v s).ev = s.ev := rfl
@[simp] theorem memWrite_cs_dev (i : Nat) (v : Sample) (s : State) : (memWrite .cs i v s).dev = s.dev := rfl
@[simp] theorem memWrite_cs_env (i : Nat) (v : Sample) (s : State) : (memWrite .cs i v s).env = s.env := rfl
@[simp] theorem memWrite_cs_par (i : Nat) (v : Sample) (s : State) : (memWrite .cs i v s).par = s.par := rfl
@[simp] theorem memWrite_cs_issue (i : Nat) (v : Sample) (s : State) : (memWrite .cs i v s).issue = s.issue := rfl

/-! ### memWrite_ma -/

@[simp] theorem memWrite_ma_phase (i : Nat) (v : Sample) (s : State) : (memWrite .ma i v s).phase = s.phase := rfl
@[simp] theorem memWrite_ma_fault (i : Nat) (v : Sample) (s : State) : (memWrite .ma i v s).fault = s.fault := rfl
@[simp] theorem memWrite_ma_raw (i : Nat) (v : Sample) (s : State) : (memWrite .ma i v s).raw = s.raw := rfl
@[simp] theorem memWrite_ma_width (i : Nat) (v : Sample) (s : State) : (memWrite .ma i v s).width = s.width := rfl
@[simp] theorem memWrite_ma_id (i : Nat) (v : Sample) (s : State) : (memWrite .ma i v s).id = s.id := rfl
@[simp] theorem memWrite_ma_cfg (i : Nat) (v : Sample) (s : State) : (memWrite .ma i v s).cfg = s.cfg := rfl
@[simp] theorem memWrite_ma_csBuf (i : Nat) (v : Sample) (s : State) : (memWrite .ma i v s).csBuf = s.csBuf := rfl
@[simp] theorem memWrite_ma_csIdx (i : Nat) (v : Sample) (s : State) : (memWrite .ma i v s).csIdx = s.csIdx := rfl
@[simp] theorem memWrite_ma_stable (i : Nat) (v : Sample) (s : State) : (memWrite .ma i v s).stable = s.stable := rfl
@[simp] theorem memWrite_ma_maBuf (i : Nat) (v : Sample) (s : State) : (memWrite .ma i v s).maBuf = s.maBuf.set i v := rfl
@[simp] theorem memWrite_ma_maIdx (i : Nat) (v : Sample) (s : State) : (memWrite .ma i v s).maIdx = s.maIdx := rfl
@[simp] theorem memWrite_ma_maSum (i : Nat) (v : Sample) (s : State) : (memWrite .ma i v s).maSum = s.maSum := rfl
@[simp] theorem memWrite_ma_ls (i : Nat) (v : Sample) (s : State) : (memWrite .ma i v s).ls = s.ls := rfl
@[simp] theorem memWrite_ma_bt (i : Nat) (v : Sample) (s : State) : (memWrite .ma i v s).bt = s.bt := rfl
@[simp] theorem memWrite_ma_ev (i : Nat) (v : Sample) (s : State) : (memWrite .ma i v s).ev = s.ev := rfl
@[simp] theorem memWrite_ma_dev (i : Nat) (v : Sample) (s : State) : (memWrite .ma i v s).dev = s.dev := rfl
@[simp] theorem memWrite_ma_env (i : Nat) (v : Sample) (s : State) : (memWrite .ma i v s).env = s.env := rfl
@[simp] theorem memWrite_ma_par (i : Nat) (v : Sample) (s : State) : (memWrite .ma i v s).par = s.par := rfl
@[simp] theorem memWrite_ma_issue (i : Nat) (v : Sample) (s : State) : (memWrite .ma i v s).issue = s.issue := rfl

/-! ### advanceIdx_cs -/

@[simp] theorem advanceIdx_cs_phase (s : State) : (advanceIdx .cs s).phase = s.phase := rfl
@[simp] theorem advanceIdx_cs_fault (s : State) : (advanceIdx .cs s).fault = s.fault := rfl
@[simp] theorem advanceIdx_cs_raw (s : State) : (advanceIdx .cs s).raw = s.raw := rfl
@[simp] theorem advanceIdx_cs_width (s : State) : (advanceIdx .cs s).width = s.width := rfl
@[simp] theorem advanceIdx_cs_id (s : State) : (advanceIdx .cs s).id = s.id := rfl
@[simp] theorem advanceIdx_cs_cfg (s : State) : (advanceIdx .cs s).cfg = s.cfg := rfl
@[simp] theorem advanceIdx_cs_csBuf (s : State) : (advanceIdx .cs s).csBuf = s.csBuf := rfl
@[simp] theorem advanceIdx_cs_csIdx (s : State) : (advanceIdx .cs s).csIdx = (s.csIdx + 1) % s.par.consensusM := rfl
@[simp] theorem advanceIdx_cs_stable (s : State) : (advanceIdx .cs s).stable = s.stable := rfl
@[simp] theorem advanceIdx_cs_maBuf (s : State) : (advanceIdx .cs s).maBuf = s.maBuf := rfl
@[simp] theorem advanceIdx_cs_maIdx (s : State) : (advanceIdx .cs s).maIdx = s.maIdx := rfl
@[simp] theorem advanceIdx_cs_maSum (s : State) : (advanceIdx .cs s).maSum = s.maSum := rfl
@[simp] theorem advanceIdx_cs_ls (s : State) : (advanceIdx .cs s).ls = s.ls := rfl
@[simp] theorem advanceIdx_cs_bt (s : State) : (advanceIdx .cs s).bt = s.bt := rfl
@[simp] theorem advanceIdx_cs_ev (s : State) : (advanceIdx .cs s).ev = s.ev := rfl
@[simp] theorem advanceIdx_cs_dev (s : State) : (advanceIdx .cs s).dev = s.dev := rfl
@[simp] theorem advanceIdx_cs_env (s : State) : (advanceIdx .cs s).env = s.env := rfl
@[simp] theorem advanceIdx_cs_par (s : State) : (advanceIdx .cs s).par = s.par := rfl
@[simp] theorem advanceIdx_cs_issue (s : State) : (advanceIdx .cs s).issue = s.issue := rfl

/-! ### advanceIdx_ma -/

@[simp] theorem advanceIdx_ma_phase (s : State) : (advanceIdx .ma s).phase = s.phase := rfl
@[simp] theorem advanceIdx_ma_fault (s : State) : (advanceIdx .ma s).fault = s.fault := rfl
@[simp] theorem advanceIdx_ma_raw (s : State) : (advanceIdx .ma s).raw = s.raw := rfl
@[simp] theorem advanceIdx_ma_width (s : State) : (advanceIdx .ma s).width = s.width := rfl
@[simp] theorem advanceIdx_ma_id (s : State) : (advanceIdx .ma s).id = s.id := rfl
@[simp] theorem advanceIdx_ma_cfg (s : State) : (advanceIdx .ma s).cfg = s.cfg := rfl
@[simp] theorem advanceIdx_ma_csBuf (s : State) : (advanceIdx .ma s).csBuf = s.csBuf := rfl
@[simp] theorem advanceIdx_ma_csIdx (s : State) : (advanceIdx .ma s).csIdx = s.csIdx := rfl
@[simp] theorem advanceIdx_ma_stable (s : State) : (advanceIdx .ma s).stable = s.stable := rfl
@[simp] theorem advanceIdx_ma_maBuf (s : State) : (advanceIdx .ma s).maBuf = s.maBuf := rfl
@[simp] theorem advanceIdx_ma_maIdx (s : State) : (advanceIdx .ma s).maIdx = (s.maIdx + 1) % s.par.maN := rfl
@[simp] theorem advanceIdx_ma_maSum (s : State) : (advanceIdx .ma s).maSum = s.maSum := rfl
@[simp] theorem advanceIdx_ma_ls (s : State) : (advanceIdx .ma s).ls = s.ls := rfl
@[simp] theorem advanceIdx_ma_bt (s : State) : (advanceIdx .ma s).bt = s.bt := rfl
@[simp] theorem advanceIdx_ma_ev (s : State) : (advanceIdx .ma s).ev = s.ev := rfl
@[simp] theorem advanceIdx_ma_dev (s : State) : (advanceIdx .ma s).dev = s.dev := rfl
@[simp] theorem advanceIdx_ma_env (s : State) : (advanceIdx .ma s).env = s.env := rfl
@[simp] theorem advanceIdx_ma_par (s : State) : (advanceIdx .ma s).par = s.par := rfl
@[simp] theorem advanceIdx_ma_issue (s : State) : (advanceIdx .ma s).issue = s.issue := rfl

/-! ### raiseFatal -/

@[simp] theorem raiseFatal_phase (r : CapWord) (s : State) : (raiseFatal r s).phase = .halt := rfl
@[simp] theorem raiseFatal_fault (r : CapWord) (s : State) : (raiseFatal r s).fault = faultCause r := rfl
@[simp] theorem raiseFatal_raw (r : CapWord) (s : State) : (raiseFatal r s).raw = s.raw := rfl
@[simp] theorem raiseFatal_width (r : CapWord) (s : State) : (raiseFatal r s).width = s.width := rfl
@[simp] theorem raiseFatal_id (r : CapWord) (s : State) : (raiseFatal r s).id = s.id := rfl
@[simp] theorem raiseFatal_cfg (r : CapWord) (s : State) : (raiseFatal r s).cfg = s.cfg := rfl
@[simp] theorem raiseFatal_csBuf (r : CapWord) (s : State) : (raiseFatal r s).csBuf = s.csBuf := rfl
@[simp] theorem raiseFatal_csIdx (r : CapWord) (s : State) : (raiseFatal r s).csIdx = s.csIdx := rfl
@[simp] theorem raiseFatal_stable (r : CapWord) (s : State) : (raiseFatal r s).stable = s.stable := rfl
@[simp] theorem raiseFatal_maBuf (r : CapWord) (s : State) : (raiseFatal r s).maBuf = s.maBuf := rfl
@[simp] theorem raiseFatal_maIdx (r : CapWord) (s : State) : (raiseFatal r s).maIdx = s.maIdx := rfl
@[simp] theorem raiseFatal_maSum (r : CapWord) (s : State) : (raiseFatal r s).maSum = s.maSum := rfl
@[simp] theorem raiseFatal_ls (r : CapWord) (s : State) : (raiseFatal r s).ls = s.ls := rfl
@[simp] theorem raiseFatal_bt (r : CapWord) (s : State) : (raiseFatal r s).bt = s.bt := rfl
@[simp] theorem raiseFatal_ev (r : CapWord) (s : State) : (raiseFatal r s).ev = s.ev := rfl
@[simp] theorem raiseFatal_dev (r : CapWord) (s : State) : (raiseFatal r s).dev = s.dev := rfl
@[simp] theorem raiseFatal_env (r : CapWord) (s : State) : (raiseFatal r s).env = s.env := rfl
@[simp] theorem raiseFatal_par (r : CapWord) (s : State) : (raiseFatal r s).par = s.par := rfl
@[simp] theorem raiseFatal_issue (r : CapWord) (s : State) : (raiseFatal r s).issue = s.issue := rfl

/-! ### blinkEval -/

@[simp] theorem blinkEval_phase (t : Channel) (s : State) : (blinkEval t s).phase = s.phase := rfl
@[simp] theorem blinkEval_fault (t : Channel) (s : State) : (blinkEval t s).fault = s.fault := rfl
@[simp] theorem blinkEval_raw (t : Channel) (s : State) : (blinkEval t s).raw = s.raw := rfl
@[simp] theorem blinkEval_width (t : Channel) (s : State) : (blinkEval t s).width = s.width := rfl
@[simp] theorem blinkEval_id (t : Channel) (s : State) : (blinkEval t s).id = s.id := rfl
@[simp] theorem blinkEval_cfg (t : Channel) (s : State) : (blinkEval t s).cfg = s.cfg := rfl
@[simp] theorem blinkEval_csBuf (t : Channel) (s : State) : (blinkEval t s).csBuf = s.csBuf := rfl
@[simp] theorem blinkEval_csIdx (t : Channel) (s : State) : (blinkEval t s).csIdx = s.csIdx := rfl
@[simp] theorem blinkEval_stable (t : Channel) (s : State) : (blinkEval t s).stable = s.stable := rfl
@[simp] theorem blinkEval_maBuf (t : Channel) (s : State) : (blinkEval t s).maBuf = s.maBuf := rfl
@[simp] theorem blinkEval_maIdx (t : Channel) (s : State) : (blinkEval t s).maIdx = s.maIdx := rfl
@[simp] theorem blinkEval_maSum (t : Channel) (s : State) : (blinkEval t s).maSum = s.maSum := rfl
@[simp] theorem blinkEval_ls (t : Channel) (s : State) : (blinkEval t s).ls = s.ls := rfl
@[simp] theorem blinkEval_bt (t : Channel) (s : State) : (blinkEval t s).bt = s.bt.set t ((s.bt.get t).eval s.par.blinkInterval s.clockAnswer) := rfl
@[simp] theorem blinkEval_ev (t : Channel) (s : State) : (blinkEval t s).ev = s.ev := rfl
@[simp] theorem blinkEval_dev (t : Channel) (s : State) : (blinkEval t s).dev = s.dev := rfl
@[simp] theorem blinkEval_env (t : Channel) (s : State) : (blinkEval t s).env = { s.env with now := s.env.now.advance } := rfl
@[simp] theorem blinkEval_par (t : Channel) (s : State) : (blinkEval t s).par = s.par := rfl
@[simp] theorem blinkEval_issue (t : Channel) (s : State) : (blinkEval t s).issue = s.issue := rfl

/-! ### applyReset and resetWith -/

@[simp] theorem resetWith_phase (p : Params) (d : Devices) (e : Env) : (State.resetWith p d e).phase = .init := rfl
@[simp] theorem resetWith_fault (p : Params) (d : Devices) (e : Env) : (State.resetWith p d e).fault = .none := rfl
@[simp] theorem resetWith_raw (p : Params) (d : Devices) (e : Env) : (State.resetWith p d e).raw = 0 := rfl
@[simp] theorem resetWith_width (p : Params) (d : Devices) (e : Env) : (State.resetWith p d e).width = 0 := rfl
@[simp] theorem resetWith_id (p : Params) (d : Devices) (e : Env) : (State.resetWith p d e).id = 0 := rfl
@[simp] theorem resetWith_cfg (p : Params) (d : Devices) (e : Env) : (State.resetWith p d e).cfg = 0 := rfl
@[simp] theorem resetWith_csBuf (p : Params) (d : Devices) (e : Env) : (State.resetWith p d e).csBuf = List.replicate p.consensusM 0 := rfl
@[simp] theorem resetWith_csIdx (p : Params) (d : Devices) (e : Env) : (State.resetWith p d e).csIdx = 0 := rfl
@[simp] theorem resetWith_stable (p : Params) (d : Devices) (e : Env) : (State.resetWith p d e).stable = 0 := rfl
@[simp] theorem resetWith_maBuf (p : Params) (d : Devices) (e : Env) : (State.resetWith p d e).maBuf = List.replicate p.maN 0 := rfl
@[simp] theorem resetWith_maIdx (p : Params) (d : Devices) (e : Env) : (State.resetWith p d e).maIdx = 0 := rfl
@[simp] theorem resetWith_maSum (p : Params) (d : Devices) (e : Env) : (State.resetWith p d e).maSum = 0 := rfl
@[simp] theorem resetWith_ls (p : Params) (d : Devices) (e : Env) : (State.resetWith p d e).ls = ChannelFile.all .off := rfl
@[simp] theorem resetWith_bt (p : Params) (d : Devices) (e : Env) : (State.resetWith p d e).bt = ChannelFile.all BlinkTimer.reset := rfl
@[simp] theorem resetWith_ev (p : Params) (d : Devices) (e : Env) : (State.resetWith p d e).ev = [] := rfl
@[simp] theorem resetWith_dev (p : Params) (d : Devices) (e : Env) : (State.resetWith p d e).dev = d := rfl
@[simp] theorem resetWith_env (p : Params) (d : Devices) (e : Env) : (State.resetWith p d e).env = e := rfl
@[simp] theorem resetWith_par (p : Params) (d : Devices) (e : Env) : (State.resetWith p d e).par = p := rfl
@[simp] theorem resetWith_issue (p : Params) (d : Devices) (e : Env) : (State.resetWith p d e).issue = none := rfl
@[simp] theorem applyReset_phase (s : State) : (applyReset s).phase = .init := rfl
@[simp] theorem applyReset_fault (s : State) : (applyReset s).fault = .none := rfl
@[simp] theorem applyReset_raw (s : State) : (applyReset s).raw = 0 := rfl
@[simp] theorem applyReset_width (s : State) : (applyReset s).width = 0 := rfl
@[simp] theorem applyReset_id (s : State) : (applyReset s).id = 0 := rfl
@[simp] theorem applyReset_cfg (s : State) : (applyReset s).cfg = 0 := rfl
@[simp] theorem applyReset_csBuf (s : State) : (applyReset s).csBuf = List.replicate s.par.consensusM 0 := rfl
@[simp] theorem applyReset_csIdx (s : State) : (applyReset s).csIdx = 0 := rfl
@[simp] theorem applyReset_stable (s : State) : (applyReset s).stable = 0 := rfl
@[simp] theorem applyReset_maBuf (s : State) : (applyReset s).maBuf = List.replicate s.par.maN 0 := rfl
@[simp] theorem applyReset_maIdx (s : State) : (applyReset s).maIdx = 0 := rfl
@[simp] theorem applyReset_maSum (s : State) : (applyReset s).maSum = 0 := rfl
@[simp] theorem applyReset_ls (s : State) : (applyReset s).ls = ChannelFile.all .off := rfl
@[simp] theorem applyReset_bt (s : State) : (applyReset s).bt = ChannelFile.all BlinkTimer.reset := rfl
@[simp] theorem applyReset_ev (s : State) : (applyReset s).ev = [] := rfl
@[simp] theorem applyReset_dev (s : State) : (applyReset s).dev = s.dev := rfl
@[simp] theorem applyReset_env (s : State) : (applyReset s).env = s.env := rfl
@[simp] theorem applyReset_par (s : State) : (applyReset s).par = s.par := rfl
@[simp] theorem applyReset_issue (s : State) : (applyReset s).issue = none := rfl

end Sys2Proof.Machine
end

