-- ==== Sys2Proof/Laws/Ops.lean ====
section
/-!
SUPPORT. What each shared operation does, once: the register files, TURN, BLINK_DRIVE, BLINK_EVAL, the rings and the
answers of the environment.
-/

namespace Sys2Proof.Machine

/-! ### Taking actions -/

@[simp] theorem perform_nil (s : State) : perform [] s = s := rfl

@[simp] theorem perform_cons (a : Action) (as : List Action) (s : State) :
    perform (a :: as) s = perform as (a s) := rfl

theorem perform_append (as bs : List Action) (s : State) :
    perform (as ++ bs) s = perform bs (perform as s) := by
  induction as generalizing s with
  | nil => rfl
  | cons a as ih => exact ih (a s)

/-- What every action keeps, taking them in order keeps. -/
theorem perform_keeps {r : State → State → Prop} (hr : ∀ s, r s s) (ht : ∀ s t u, r s t → r t u → r s u)
    {as : List Action} (ha : ∀ a ∈ as, ∀ s, r s (a s)) (s : State) : r s (perform as s) := by
  induction as generalizing s with
  | nil => exact hr s
  | cons a as ih =>
    exact ht _ _ _ (ha a (by simp) s) (ih (fun b hb => ha b (by simp [hb])) (a s))

/-! ### Register files -/

@[simp] theorem ChannelFile.get_set_same {α : Type} (f : ChannelFile α) (c : Channel) (v : α) :
    (f.set c v).get c = v := by cases c <;> rfl

theorem ChannelFile.get_set {α : Type} (f : ChannelFile α) (c d : Channel) (v : α) :
    (f.set c v).get d = if d = c then v else f.get d := by cases c <;> cases d <;> rfl

theorem ChannelFile.get_set_ne {α : Type} (f : ChannelFile α) {c d : Channel} (h : d ≠ c) (v : α) :
    (f.set c v).get d = f.get d := by simp [ChannelFile.get_set, h]

@[simp] theorem ChannelFile.set_get {α : Type} (f : ChannelFile α) (c : Channel) : f.set c (f.get c) = f := by
  cases c <;> rfl

@[simp] theorem ChannelFile.set_set {α : Type} (f : ChannelFile α) (c : Channel) (v w : α) :
    (f.set c v).set c w = f.set c w := by cases c <;> rfl

@[simp] theorem ChannelFile.get_all {α : Type} (v : α) (c : Channel) : (ChannelFile.all v).get c = v := by
  cases c <;> rfl

theorem ChannelFile.ext_get {α : Type} {f g : ChannelFile α} (h : ∀ c : Channel, f.get c = g.get c) : f = g := by
  apply ChannelFile.ext
  · exact h .frontWhite
  · exact h .frontBlue
  · exact h .left
  · exact h .right
  · exact h .stop
  · exact h .reverse

/-! ### TURN -/

theorem turn_of_eq {c : Channel} {v : LightState} {s : State} (h : s.ls.get c = v) : turn c v s = s := by
  simp [turn, h]

@[simp] theorem turn_ls (c : Channel) (v : LightState) (s : State) : (turn c v s).ls = s.ls.set c v := by
  unfold turn; split
  · rename_i h; rw [← h]; simp
  · simp

@[simp] theorem turn_ev (c : Channel) (v : LightState) (s : State) :
    (turn c v s).ev = s.ev ++ turnEvents c (s.ls.get c) v := by
  unfold turn turnEvents; split <;> simp

theorem turn_level (c d : Channel) (v : LightState) (s : State) :
    (turn c v s).dev.level.get d = if d = c ∧ s.ls.get c ≠ v then v.level else s.dev.level.get d := by
  unfold turn; split
  · rename_i h; simp [h]
  · rename_i h; simp [ChannelFile.get_set, h]

@[simp] theorem turn_dev_enabled (c : Channel) (v : LightState) (s : State) :
    (turn c v s).dev.enabled = s.dev.enabled := by unfold turn; split <;> rfl

@[simp] theorem turn_dev_icEnabled (c : Channel) (v : LightState) (s : State) :
    (turn c v s).dev.icEnabled = s.dev.icEnabled := by unfold turn; split <;> rfl

@[simp] theorem turn_dev_icCount (c : Channel) (v : LightState) (s : State) :
    (turn c v s).dev.icCount = s.dev.icCount := by unfold turn; split <;> rfl

@[simp] theorem turn_phase (c : Channel) (v : LightState) (s : State) : (turn c v s).phase = s.phase := by
  unfold turn; split <;> rfl

@[simp] theorem turn_fault (c : Channel) (v : LightState) (s : State) : (turn c v s).fault = s.fault := by
  unfold turn; split <;> rfl

@[simp] theorem turn_raw (c : Channel) (v : LightState) (s : State) : (turn c v s).raw = s.raw := by
  unfold turn; split <;> rfl

@[simp] theorem turn_width (c : Channel) (v : LightState) (s : State) : (turn c v s).width = s.width := by
  unfold turn; split <;> rfl

@[simp] theorem turn_id (c : Channel) (v : LightState) (s : State) : (turn c v s).id = s.id := by
  unfold turn; split <;> rfl

@[simp] theorem turn_cfg (c : Channel) (v : LightState) (s : State) : (turn c v s).cfg = s.cfg := by
  unfold turn; split <;> rfl

@[simp] theorem turn_csBuf (c : Channel) (v : LightState) (s : State) : (turn c v s).csBuf = s.csBuf := by
  unfold turn; split <;> rfl

@[simp] theorem turn_csIdx (c : Channel) (v : LightState) (s : State) : (turn c v s).csIdx = s.csIdx := by
  unfold turn; split <;> rfl

@[simp] theorem turn_stable (c : Channel) (v : LightState) (s : State) : (turn c v s).stable = s.stable := by
  unfold turn; split <;> rfl

@[simp] theorem turn_maBuf (c : Channel) (v : LightState) (s : State) : (turn c v s).maBuf = s.maBuf := by
  unfold turn; split <;> rfl

@[simp] theorem turn_maIdx (c : Channel) (v : LightState) (s : State) : (turn c v s).maIdx = s.maIdx := by
  unfold turn; split <;> rfl

@[simp] theorem turn_maSum (c : Channel) (v : LightState) (s : State) : (turn c v s).maSum = s.maSum := by
  unfold turn; split <;> rfl

@[simp] theorem turn_bt (c : Channel) (v : LightState) (s : State) : (turn c v s).bt = s.bt := by
  unfold turn; split <;> rfl

@[simp] theorem turn_env (c : Channel) (v : LightState) (s : State) : (turn c v s).env = s.env := by
  unfold turn; split <;> rfl

@[simp] theorem turn_par (c : Channel) (v : LightState) (s : State) : (turn c v s).par = s.par := by
  unfold turn; split <;> rfl

@[simp] theorem turn_issue (c : Channel) (v : LightState) (s : State) : (turn c v s).issue = s.issue := by
  unfold turn; split <;> rfl

/-- BLINK_DRIVE is a TURN to the state the phase asks for (R87). -/
theorem blinkDrive_eq_turn (c : Channel) (p : Bool) (s : State) :
    blinkDrive c p s = turn c (driven p (s.ls.get c)) s := by
  unfold blinkDrive driven
  cases p
  · by_cases h : s.ls.get c = .on
    · simp [h]
    · simp [h, turn_of_eq]
  · simp

theorem driveBy_eq_turn (c e : Channel) (s : State) :
    driveBy c e s = turn c (driven (s.bt.get e).phaseOn (s.ls.get c)) s := blinkDrive_eq_turn c _ s

/-- BLINK(c) is one timer evaluation and a TURN (R51). -/
theorem perform_blinkActions (mode : TimerMode) (c : Channel) (s : State) :
    perform (blinkActions mode c) s = turn c
      (driven ((s.bt.get (tsel mode c)).eval s.par.blinkInterval s.clockAnswer).phaseOn (s.ls.get c))
      (blinkEval (tsel mode c) s) := by
  simp [blinkActions, driveBy_eq_turn]

theorem driven_ne_high {p : Bool} {v : LightState} (h : v ≠ .high) : driven p v ≠ .high := by
  cases p <;> cases v <;> simp_all [driven]

theorem driven_of_ne_high {p : Bool} {v : LightState} (h : v ≠ .high) :
    driven p v = if p = true then .on else .off := by
  cases p <;> cases v <;> simp_all [driven]

/-! ### INIT -/

/-- The six enables in one update (R96). -/
theorem perform_enableActions (s : State) :
    perform enableActions s = { s with
      ev := s.ev ++ [.outEnable .frontWhite true, .outEnable .frontBlue true, .outEnable .left true,
        .outEnable .right true, .outEnable .stop true, .outEnable .reverse true],
      dev := { s.dev with enabled := ChannelFile.all true } } := by
  apply State.ext <;> simp [enableActions]
  apply ChannelFile.ext_get
  intro c
  cases c <;> simp [ChannelFile.get_set]

/-- INIT after a passing check: the enables, one TURN, and the phase. -/
theorem perform_initActions_pass (s : State) (h : s.capAnswer = 0) :
    perform (initActions s) s = goto .sample (turn .frontBlue .on (perform enableActions (tookCap s))) := by
  simp [initActions, h, perform_append]

/-- INIT after a failing check: the exception. -/
theorem perform_initActions_fail (s : State) (h : s.capAnswer ≠ 0) :
    perform (initActions s) s = raiseFatal s.capAnswer (tookCap s) := by
  rw [initActions, if_neg h]
  rfl

/-! ### Parameters -/

/-- What R7 gives of a configuration record. -/
theorem params_bounds (p : Params) :
    p.rangeMin.toNat < p.rangeMax.toNat ∧ 1 ≤ p.consensusM ∧ 1 ≤ p.maN ∧
    0 < p.blinkInterval.toNat ∧ p.blinkInterval.toNat < 2147483648 := by
  have h := p.isLegal
  simp only [ParamRecord.legal, Bool.and_eq_true, decide_eq_true_eq] at h
  exact ⟨h.1.1.1.1.1, h.1.1.1.1.2, h.1.1.1.2, h.1.1.2, h.1.2⟩

theorem denominator_pos (p : Params) : 1 ≤ denominator p := by
  unfold denominator; split
  · exact Nat.le_refl 1
  · exact (params_bounds p).2.2.1

theorem span_pos (p : Params) : 0 < span p := by
  have := (params_bounds p).1
  unfold span; omega

/-! ### The rings -/

theorem ringOk_iff (sp : Space) (s : State) :
    ringOk sp s = true ↔ (ringOf sp s).length = ringSize sp s.par ∧ ringIdx sp s < ringSize sp s.par := by
  simp [ringOk]

theorem memWrite_keeps_ringOk (sp sp' : Space) (i : Nat) (v : Sample) (s : State) :
    ringOk sp (memWrite sp' i v s) = ringOk sp s := by
  rw [Bool.eq_iff_iff, ringOk_iff, ringOk_iff]
  cases sp <;> cases sp' <;> simp [ringOf, ringIdx, ringSize]

theorem advanceIdx_keeps_ringOk (sp sp' : Space) (s : State) (h : ringOk sp s = true) :
    ringOk sp (advanceIdx sp' s) = true := by
  rw [ringOk_iff] at *
  cases sp <;> cases sp' <;>
    simp only [ringOf, ringIdx, ringSize, advanceIdx_cs_csBuf, advanceIdx_cs_csIdx, advanceIdx_cs_maBuf,
      advanceIdx_cs_maIdx, advanceIdx_cs_par, advanceIdx_ma_csBuf, advanceIdx_ma_csIdx, advanceIdx_ma_maBuf,
      advanceIdx_ma_maIdx, advanceIdx_ma_par] at * <;>
    first
      | exact h
      | exact ⟨h.1, Nat.mod_lt _ (by omega)⟩

/-- Every storage operation keeps the canonical form. -/
theorem pushRaw_keeps_memory (sp : Space) (s : State) (h : Memory.wf s = true) : Memory.wf (pushRaw sp s) = true := by
  simp only [Memory.wf, Bool.and_eq_true, pushRaw] at *
  exact ⟨advanceIdx_keeps_ringOk _ _ _ (by rw [memWrite_keeps_ringOk]; exact h.1),
    advanceIdx_keeps_ringOk _ _ _ (by rw [memWrite_keeps_ringOk]; exact h.2)⟩

theorem resetWith_memory_wf (p : Params) (d : Devices) (e : Env) : Memory.wf (State.resetWith p d e) = true := by
  have h := params_bounds p
  simp [Memory.wf, ringOk_iff, ringOf, ringIdx, ringSize]
  omega

/-- Reading the word just written gives it; every other word reads as before. -/
theorem memRead_memWrite (sp : Space) (i j : Nat) (v : Sample) (s : State) (h : i < (ringOf sp s).length) :
    memRead sp j (memWrite sp i v s) = if j = i then v else memRead sp j s := by
  cases sp <;> simp only [ringOf] at h <;> simp only [memRead, ringOf, memWrite_cs_csBuf, memWrite_ma_maBuf,
    List.getD_eq_getElem?_getD, List.getElem?_set, h] <;>
    (by_cases e : j = i
     · subst e; simp
     · rw [if_neg (fun q => e q.symm), if_neg e])

/-- A write to one space leaves the other alone. -/
theorem memRead_memWrite_other (sp sp' : Space) (hs : sp ≠ sp') (i j : Nat) (v : Sample) (s : State) :
    memRead sp j (memWrite sp' i v s) = memRead sp j s := by
  cases sp <;> cases sp' <;> first | exact absurd rfl hs | rfl

/-- The consensus check is over the whole buffer. -/
theorem consensus_iff (s : State) (h : s.csBuf.length = s.par.consensusM) :
    consensus s = true ↔ ∀ x ∈ s.csBuf, x = s.raw := by
  simp only [consensus, memRead, ringOf, List.all_eq_true, List.mem_range, beq_iff_eq, ← h,
    List.getD_eq_getElem?_getD]
  constructor
  · intro H x hx
    obtain ⟨i, hi, rfl⟩ := List.mem_iff_getElem.mp hx
    have := H i hi
    simpa [hi] using this
  · intro H i hi
    have := H _ (List.getElem_mem hi)
    simpa [hi] using this

/-! ### The environment's answers -/

@[simp] theorem Stream.next_nil {α : Type} (free : Nat → α) (k : Nat) : (Stream.mk [] k).next free = free k := rfl

@[simp] theorem Stream.next_cons {α : Type} (free : Nat → α) (a : α) (as : List α) (k : Nat) :
    (Stream.mk (a :: as) k).next free = a := rfl

@[simp] theorem Stream.advance_cons {α : Type} (a : α) (as : List α) (k : Nat) :
    (Stream.mk (a :: as) k).advance = ⟨as, k + 1⟩ := rfl

/-! ### SAMPLE -/

/-- WaitPeriod of an enabled capture: the counter takes the period's high time. -/
theorem waitPeriod_enabled (s : State) (h : s.dev.icEnabled = true) :
    waitPeriod s = { s with
      dev := { s.dev with icCount := s.sampleAnswer },
      env := { s.env with icElapsed := s.env.icElapsed.advance } } := by
  unfold waitPeriod
  rw [if_pos h]
  rfl

/-- SAMPLE in one update (R57). -/
theorem perform_sampleActions (s : State) :
    perform sampleActions s = { s with
      raw := s.sampleAnswer, phase := .filter,
      ev := s.ev ++ [.icReset, .icEnable true, .icEnable false],
      dev := { s.dev with icEnabled := false, icCount := s.sampleAnswer },
      env := { s.env with icElapsed := s.env.icElapsed.advance } } := by
  simp only [sampleActions, perform_cons, perform_nil]
  rw [waitPeriod_enabled _ (by simp)]
  apply State.ext <;> simp [State.sampleAnswer, icRead]

end Sys2Proof.Machine
end

