-- ==== Sys2Proof/Laws/Filter.lean ====
section
/-! SUPPORT. What the two filters do, once, and the running sum of a ring (41_filter R60, R63). -/

namespace Sys2Proof.Machine

theorem ringOk_cs (s : State) :
    ringOk .cs s = true ↔ s.csBuf.length = s.par.consensusM ∧ s.csIdx < s.par.consensusM := ringOk_iff .cs s

theorem ringOk_ma (s : State) :
    ringOk .ma s = true ↔ s.maBuf.length = s.par.maN ∧ s.maIdx < s.par.maN := ringOk_iff .ma s

/-- ADOPT changes `STABLE` only, and makes it the sample exactly when the whole buffer is the sample. -/
theorem adopt_spec (s : State) (h : s.csBuf.length = s.par.consensusM) :
    adopt s = { s with stable := (adopt s).stable } ∧
    ((∀ x ∈ s.csBuf, x = s.raw) → (adopt s).stable = s.raw) ∧
    (¬ (∀ x ∈ s.csBuf, x = s.raw) → (adopt s).stable = s.stable) := by
  have hc := consensus_iff s h
  unfold adopt
  split
  · rename_i q
    exact ⟨rfl, fun _ => rfl, fun z => absurd (hc.1 q.2) z⟩
  · rename_i q
    refine ⟨rfl, fun z => ?_, fun _ => rfl⟩
    by_contra w
    exact q ⟨fun e => w e.symm, hc.2 z⟩

/-- FILTER.CS where its ring is in form: the frame, and the new stable value. -/
theorem filterCs_spec (s : State) (h : ringOk .cs s = true) :
    filterCs s = { s with
      csBuf := s.csBuf.set s.csIdx s.raw, csIdx := (s.csIdx + 1) % s.par.consensusM,
      stable := (filterCs s).stable, width := (filterCs s).stable.toNat, phase := .decode } ∧
    ((∀ x ∈ s.csBuf.set s.csIdx s.raw, x = s.raw) → (filterCs s).stable = s.raw) ∧
    (¬ (∀ x ∈ s.csBuf.set s.csIdx s.raw, x = s.raw) → (filterCs s).stable = s.stable) := by
  rw [ringOk_cs] at h
  have e : pushRaw .cs s =
      { s with csBuf := s.csBuf.set s.csIdx s.raw, csIdx := (s.csIdx + 1) % s.par.consensusM } := rfl
  obtain ⟨a, b, c⟩ := adopt_spec (pushRaw .cs s) (by simp [pushRaw, h.1])
  refine ⟨?_, b, c⟩
  have f : (filterCs s).stable = (adopt (pushRaw .cs s)).stable := rfl
  rw [f]
  unfold filterCs
  generalize adopt (pushRaw .cs s) = t at *
  rw [a, e]
  rfl

/-- FILTER.MA in one update. -/
theorem filterMa_eq (s : State) :
    filterMa s = { s with
      maBuf := s.maBuf.set s.maIdx s.raw, maIdx := (s.maIdx + 1) % s.par.maN,
      maSum := newSum s, width := newSum s, phase := .decode } := by
  unfold filterMa
  simp only [pushRaw, ringIdx]
  apply State.ext <;> simp

/-- Replacing one word of a ring changes the sum by the difference. -/
theorem sum_set (l : List Sample) : ∀ (i : Nat) (v x : Sample), l[i]? = some x →
    ((l.set i v).map BitVec.toNat).sum + x.toNat = (l.map BitVec.toNat).sum + v.toNat := by
  induction l with
  | nil => simp
  | cons a l ih =>
    intro i v x h
    cases i with
    | zero =>
      simp only [List.getElem?_cons_zero, Option.some.injEq] at h
      subst h
      simp only [List.set_cons_zero, List.map_cons, List.sum_cons]
      omega
    | succ i =>
      have := ih i v x (by simpa using h)
      simp only [List.set_cons_succ, List.map_cons, List.sum_cons] at this ⊢
      omega

/-- A ring's sum is at most its size times the largest sample. -/
theorem sum_le (l : List Sample) : (l.map BitVec.toNat).sum ≤ l.length * 65535 := by
  induction l with
  | nil => simp
  | cons a l ih =>
    have := a.isLt
    simp only [List.map_cons, List.sum_cons, List.length_cons]
    omega

/-- The new running sum: exact, and the sum of the new ring. -/
theorem newSum_spec (s : State) (h : ringOk .ma s = true) (hs : s.maSum = (s.maBuf.map BitVec.toNat).sum) :
    ∃ x : Sample, s.maBuf[s.maIdx]? = some x ∧ newSum s + x.toNat = s.maSum + s.raw.toNat ∧
      newSum s = ((s.maBuf.set s.maIdx s.raw).map BitVec.toNat).sum := by
  obtain ⟨hl, hi⟩ := (ringOk_ma s).1 h
  obtain ⟨x, hx⟩ : ∃ x, s.maBuf[s.maIdx]? = some x := ⟨_, List.getElem?_eq_getElem (by omega)⟩
  have hd := sum_set _ _ s.raw x hx
  have hle : x.toNat ≤ s.maSum := by
    rw [hs]
    exact List.single_le_sum (by simp) _ (List.mem_map.2 ⟨x, List.mem_of_getElem? hx, rfl⟩)
  have e : newSum s = s.maSum - x.toNat + s.raw.toNat := by simp [newSum, memRead, ringOf, hx]
  exact ⟨x, hx, by omega, by omega⟩

end Sys2Proof.Machine
end

