-- ==== Sys2Proof/Laws/PerInstr.lean ====
section
/-!
SUPPORT. A family of statements with one lemma per instruction. EncodeMasked: the encoding of a sub-operation has no
bit outside the bits its slot examines (30_encoding R42).
-/

namespace Sys2Proof.Laws

/-- A sub-operation's word lies inside its mask, in some slot that decodes it back. -/
def EncodeMasked.Statement (i : Instr) : Prop :=
  ∀ m : CfgWord, subMask i = some m → ∃ (k : Slot) (w : CfgWord), encode i = .sub k w ∧ w &&& m = w ∧ decodeSlot k w = i

/-- An instruction that is no sub-operation has nothing to show. -/
theorem EncodeMasked.of_none {i : Instr} (h : subMask i = none) : EncodeMasked.Statement i := by
  intro m hm
  rw [h] at hm
  cases hm

/-- A sub-operation shows its slot and word. -/
theorem EncodeMasked.of_word {i : Instr} (k : Slot) (w m : CfgWord) (hm : subMask i = some m)
    (he : encode i = .sub k w) (hw : w &&& m = w) (hd : decodeSlot k w = i) : EncodeMasked.Statement i := by
  intro m' h
  rw [hm] at h
  cases h
  exact ⟨k, w, he, hw, hd⟩

theorem EncodeMasked.init : EncodeMasked.Statement .init := EncodeMasked.of_none rfl
theorem EncodeMasked.sample : EncodeMasked.Statement .sample := EncodeMasked.of_none rfl
theorem EncodeMasked.filterCs : EncodeMasked.Statement .filterCs := EncodeMasked.of_none rfl
theorem EncodeMasked.filterMa : EncodeMasked.Statement .filterMa := EncodeMasked.of_none rfl
theorem EncodeMasked.decode : EncodeMasked.Statement .decode := EncodeMasked.of_none rfl
theorem EncodeMasked.apply : EncodeMasked.Statement .apply := EncodeMasked.of_none rfl
theorem EncodeMasked.halt : EncodeMasked.Statement .halt := EncodeMasked.of_none rfl
theorem EncodeMasked.fwHigh : EncodeMasked.Statement .fwHigh :=
  EncodeMasked.of_word .frontWhite 0x10 0x10 rfl rfl rfl rfl
theorem EncodeMasked.fwOn : EncodeMasked.Statement .fwOn :=
  EncodeMasked.of_word .frontWhite 0x20 0x30 rfl rfl rfl rfl
theorem EncodeMasked.fwOff : EncodeMasked.Statement .fwOff :=
  EncodeMasked.of_word .frontWhite 0x00 0x30 rfl rfl rfl rfl
theorem EncodeMasked.stopHigh : EncodeMasked.Statement .stopHigh :=
  EncodeMasked.of_word .stop 0x01 0x01 rfl rfl rfl rfl
theorem EncodeMasked.stopOn : EncodeMasked.Statement .stopOn :=
  EncodeMasked.of_word .stop 0x20 0x21 rfl rfl rfl rfl
theorem EncodeMasked.stopOff : EncodeMasked.Statement .stopOff :=
  EncodeMasked.of_word .stop 0x00 0x21 rfl rfl rfl rfl
theorem EncodeMasked.revOn : EncodeMasked.Statement .revOn :=
  EncodeMasked.of_word .reverse 0x02 0x02 rfl rfl rfl rfl
theorem EncodeMasked.revOff : EncodeMasked.Statement .revOff :=
  EncodeMasked.of_word .reverse 0x00 0x02 rfl rfl rfl rfl
theorem EncodeMasked.blinkNone : EncodeMasked.Statement .blinkNone :=
  EncodeMasked.of_word .blinkers 0x00 0x0C rfl rfl rfl rfl
theorem EncodeMasked.blinkLeft : EncodeMasked.Statement .blinkLeft :=
  EncodeMasked.of_word .blinkers 0x04 0x0C rfl rfl rfl rfl
theorem EncodeMasked.blinkRight : EncodeMasked.Statement .blinkRight :=
  EncodeMasked.of_word .blinkers 0x08 0x0C rfl rfl rfl rfl
theorem EncodeMasked.blinkHazard : EncodeMasked.Statement .blinkHazard :=
  EncodeMasked.of_word .blinkers 0x0C 0x0C rfl rfl rfl rfl
theorem EncodeMasked.outLevelOff (c : Channel) : EncodeMasked.Statement (.outLevelOff c) := EncodeMasked.of_none rfl
theorem EncodeMasked.outLevelOn (c : Channel) : EncodeMasked.Statement (.outLevelOn c) := EncodeMasked.of_none rfl
theorem EncodeMasked.outLevelHigh (c : Channel) : EncodeMasked.Statement (.outLevelHigh c) :=
  EncodeMasked.of_none rfl
theorem EncodeMasked.outEnable (c : Channel) (e : Bool) : EncodeMasked.Statement (.outEnable c e) :=
  EncodeMasked.of_none rfl
theorem EncodeMasked.icReset : EncodeMasked.Statement .icReset := EncodeMasked.of_none rfl
theorem EncodeMasked.icEnable (e : Bool) : EncodeMasked.Statement (.icEnable e) := EncodeMasked.of_none rfl

end Sys2Proof.Laws
end

