-- ==== Sys2Proof/Laws/RuleEngine.lean ====
section
/-!
SUPPORT. What APPLY can do, once: it is a chain of TURNs and timer evaluations, each of a channel the rule engine owns
(43_rule_engine R74 to R93).
-/

namespace Sys2Proof.Machine

/-- `LightRun s t`: `t` comes from `s` by TURNs of channels other than FrontBlue, which take no blinker or Reverse to
High from another state, and by evaluations of the timers the blinkers use. -/
inductive LightRun (s : State) : State → Prop
  | refl : LightRun s s
  | turn {t : State} (c : Channel) (v : LightState) : c ≠ .frontBlue →
      (c = .left ∨ c = .right ∨ c = .reverse → t.ls.get c ≠ .high → v ≠ .high) →
      LightRun s t → LightRun s (turn c v t)
  | eval {t : State} (c : Channel) : c = tsel s.par.timerMode .left ∨ c = tsel s.par.timerMode .right →
      LightRun s t → LightRun s (blinkEval c t)

/-- Nothing but lights, timers, trace, levels and clock answers differs. -/
theorem LightRun.frame {s t : State} (h : LightRun s t) :
    t = { s with ls := t.ls, bt := t.bt, ev := t.ev, dev := { s.dev with level := t.dev.level },
                 env := { s.env with now := t.env.now } } := by
  induction h with
  | refl => rfl
  | @turn t c v _ _ _ ih =>
    simp only [State.ext_iff, Devices.ext_iff, turn_phase, turn_fault, turn_raw, turn_width, turn_id, turn_cfg,
      turn_csBuf, turn_csIdx, turn_stable, turn_maBuf, turn_maIdx, turn_maSum, turn_par, turn_issue, turn_env,
      turn_bt, turn_dev_enabled, turn_dev_icEnabled, turn_dev_icCount] at ih ⊢
    exact ih
  | @eval t c _ _ ih =>
    simp only [State.ext_iff, Devices.ext_iff, Env.ext_iff, blinkEval_phase, blinkEval_fault, blinkEval_raw,
      blinkEval_width, blinkEval_id, blinkEval_cfg, blinkEval_csBuf, blinkEval_csIdx, blinkEval_stable,
      blinkEval_maBuf, blinkEval_maIdx, blinkEval_maSum, blinkEval_par, blinkEval_issue, blinkEval_env, blinkEval_dev,
      true_and] at ih ⊢
    exact ih

theorem LightRun.par {s t : State} (h : LightRun s t) : t.par = s.par := by rw [h.frame]

/-- FrontBlue is never touched (R84). -/
theorem LightRun.frontBlue {s t : State} (h : LightRun s t) : t.ls.frontBlue = s.ls.frontBlue := by
  induction h with
  | refl => rfl
  | @turn t c v hc _ _ ih =>
    rw [turn_ls, ← ih]
    cases c <;> first | rfl | exact absurd rfl hc
  | @eval t c _ _ ih => rw [blinkEval_ls, ih]

/-- The blinkers and Reverse stay away from High (R94 (b)). -/
theorem LightRun.ne_high {s t : State} (h : LightRun s t) (c : Channel)
    (hc : c = .left ∨ c = .right ∨ c = .reverse) (hs : s.ls.get c ≠ .high) : t.ls.get c ≠ .high := by
  induction h with
  | refl => exact hs
  | @turn t d v _ hv _ ih =>
    rw [turn_ls, ChannelFile.get_set]
    split
    · rename_i e
      subst e
      exact hv hc ih
    · exact ih
  | @eval t d _ _ ih => rw [blinkEval_ls]; exact ih

/-- A timer no blinker uses is never touched (R85). -/
theorem LightRun.idleTimer {s t : State} (h : LightRun s t) (c : Channel)
    (hl : c ≠ tsel s.par.timerMode .left) (hr : c ≠ tsel s.par.timerMode .right) : t.bt.get c = s.bt.get c := by
  induction h with
  | refl => rfl
  | turn c v _ _ _ ih => rw [turn_bt, ih]
  | @eval t d hd _ ih =>
    have hne : c ≠ d := by rintro rfl; exact hd.elim hl hr
    rw [blinkEval_bt, ChannelFile.get_set_ne _ hne, ih]

/-! ### The sub-operations and APPLY are such chains -/

theorem LightRun.blinkActions {s t : State} (c : Channel) (hc : c = .left ∨ c = .right) (h : LightRun s t) :
    LightRun s (perform (Machine.blinkActions s.par.timerMode c) t) := by
  rw [perform_blinkActions]
  refine .turn _ _ (by rcases hc with rfl | rfl <;> decide) (fun _ q => driven_ne_high (by simpa using q))
    (.eval _ ?_ h)
  rcases hc with rfl | rfl <;> simp

theorem LightRun.blinkNone {s t : State} (h : LightRun s t) : LightRun s (perform blinkNoneActions t) :=
  .turn _ _ (by decide) (by simp) (.turn _ _ (by decide) (by simp) h)

theorem LightRun.blinkLeft {s t : State} (h : LightRun s t) :
    LightRun s (perform (blinkLeftActions s.par.timerMode) t) := by
  rw [blinkLeftActions, perform_append]
  exact .turn _ _ (by decide) (by simp) (h.blinkActions _ (by simp))

theorem LightRun.blinkRight {s t : State} (h : LightRun s t) :
    LightRun s (perform (blinkRightActions s.par.timerMode) t) := by
  rw [blinkRightActions, perform_append]
  exact .turn _ _ (by decide) (by simp) (h.blinkActions _ (by simp))

theorem LightRun.blinkHazard {s t : State} (h : LightRun s t) :
    LightRun s (perform (blinkHazardActions s.par.timerMode) t) := by
  unfold blinkHazardActions
  split
  · rename_i hm
    simp only [perform_cons, perform_nil, driveBy_eq_turn]
    exact .turn _ _ (by decide) (fun _ q => driven_ne_high q) (.turn _ _ (by decide) (fun _ q => driven_ne_high q)
      (.eval _ (by rw [hm]; simp [tsel]) h))
  · rename_i hm
    rw [perform_append, ← hm]
    exact (h.blinkActions _ (by simp)).blinkActions _ (by simp)

/-- The FrontWhite slot is one TURN. -/
theorem applyFrontWhite_eq (w : CfgWord) (s : State) :
    applyFrontWhite w s
      = turn .frontWhite (if cfgHighBeam w then .high else if cfgDayNight w then .on else .off) s := by
  unfold applyFrontWhite
  split_ifs <;> rfl

/-- The Stop slot is one TURN. -/
theorem applyStop_eq (w : CfgWord) (s : State) :
    applyStop w s = turn .stop (if cfgBrake w then .high else if cfgDayNight w then .on else .off) s := by
  unfold applyStop
  split_ifs <;> rfl

/-- The Reverse slot is one TURN. -/
theorem applyReverse_eq (w : CfgWord) (s : State) :
    applyReverse w s = turn .reverse (if cfgReverse w then .on else .off) s := by
  unfold applyReverse
  split_ifs <;> rfl

theorem LightRun.blinkers {s t : State} (w : CfgWord) (h : LightRun s t) :
    LightRun s (perform (blinkersActions w s.par.timerMode) t) := by
  unfold blinkersActions
  split_ifs
  · exact h.blinkNone
  · exact h.blinkLeft
  · exact h.blinkRight
  · exact h.blinkHazard

/-- The four slots of APPLY are a chain of TURNs and evaluations. -/
theorem slotActions_lightRun (w : CfgWord) (s : State) :
    LightRun s (perform (slotActions w s.par.timerMode) s) := by
  rw [slotActions, perform_append]
  simp only [perform_cons, perform_nil, applyFrontWhite_eq, applyStop_eq, applyReverse_eq]
  refine .blinkers w (.turn _ _ (by decide) (fun _ _ => ?_)
    (.turn _ _ (by decide) (by simp) (.turn _ _ (by decide) (by simp) .refl)))
  split_ifs <;> decide

end Sys2Proof.Machine
end

