-- ==== Sys2Proof/Tests/Slice0.lean ====
section
/-!
SUPPORT. The model's own tests. Words are written out from the spec's encodings; expected results are those of
95_test_vectors, whose row is named beside each test. The second half meets the hypotheses of the statements.
-/

namespace Sys2Proof.Tests

open Sys2Proof.Machine

/-! ### Decoding: one word per constructor, written out bit by bit (30_encoding R40 to R47) -/

theorem test_decode_init : decode .consensus (.phase 0b000) = .ok .init := rfl
theorem test_decode_sample : decode .consensus (.phase 0b001) = .ok .sample := rfl
theorem test_decode_filterCs : decode .consensus (.phase 0b010) = .ok .filterCs := rfl
theorem test_decode_filterMa : decode .movingAverage (.phase 0b010) = .ok .filterMa := rfl
theorem test_decode_decode : decode .consensus (.phase 0b011) = .ok .decode := rfl
theorem test_decode_apply : decode .consensus (.phase 0b100) = .ok .apply := rfl
theorem test_decode_halt : decode .consensus (.phase 0b111) = .ok .halt := rfl
theorem test_decode_fwHigh : decode .consensus (.sub .frontWhite 0b110000) = .ok .fwHigh := rfl
theorem test_decode_fwOn : decode .consensus (.sub .frontWhite 0b101111) = .ok .fwOn := rfl
theorem test_decode_fwOff : decode .consensus (.sub .frontWhite 0b001111) = .ok .fwOff := rfl
theorem test_decode_stopHigh : decode .consensus (.sub .stop 0b100001) = .ok .stopHigh := rfl
theorem test_decode_stopOn : decode .consensus (.sub .stop 0b111110) = .ok .stopOn := rfl
theorem test_decode_stopOff : decode .consensus (.sub .stop 0b011110) = .ok .stopOff := rfl
theorem test_decode_revOn : decode .consensus (.sub .reverse 0b000010) = .ok .revOn := rfl
theorem test_decode_revOff : decode .consensus (.sub .reverse 0b111101) = .ok .revOff := rfl
theorem test_decode_blinkNone : decode .consensus (.sub .blinkers 0b110011) = .ok .blinkNone := rfl
theorem test_decode_blinkLeft : decode .consensus (.sub .blinkers 0b000100) = .ok .blinkLeft := rfl
theorem test_decode_blinkRight : decode .consensus (.sub .blinkers 0b001000) = .ok .blinkRight := rfl
theorem test_decode_blinkHazard : decode .consensus (.sub .blinkers 0b001100) = .ok .blinkHazard := rfl
theorem test_decode_outLevelOff : decode .consensus (.out 0b00100000000) = .ok (.outLevelOff .left) := rfl
theorem test_decode_outLevelOn : decode .consensus (.out 0b00010010100) = .ok (.outLevelOn .frontBlue) := rfl
theorem test_decode_outLevelHigh : decode .consensus (.out 0b01001100100) = .ok (.outLevelHigh .stop) := rfl
theorem test_decode_outEnable_on : decode .consensus (.out 0b11010000001) = .ok (.outEnable .reverse true) := rfl
theorem test_decode_outEnable_off : decode .consensus (.out 0b10110000000) = .ok (.outEnable .right false) := rfl
theorem test_decode_icReset : decode .consensus (.icc 0b00) = .ok .icReset := rfl
theorem test_decode_icEnable_on : decode .consensus (.icc 0b11) = .ok (.icEnable true) := rfl
theorem test_decode_icEnable_off : decode .consensus (.icc 0b10) = .ok (.icEnable false) := rfl

/-- R50: what no rule covers is rejected, by name. -/
theorem test_decode_rejects :
    decode .consensus (.phase 0b101) = .error .reservedPhase ∧
    decode .consensus (.phase 0b110) = .error .reservedPhase ∧
    decode .consensus (.out 0b01100000000) = .error .noChannel ∧
    decode .consensus (.out 0b11110000001) = .error .noChannel ∧
    decode .consensus (.out 0b00000000001) = .error .reservedLevel ∧
    decode .consensus (.out 0b00001111111) = .error .reservedLevel ∧
    decode .consensus (.out 0b10000000010) = .error .reservedEnable ∧
    decode .consensus (.icc 0b01) = .error .reservedIcc := ⟨rfl, rfl, rfl, rfl, rfl, rfl, rfl, rfl⟩

/-- The words of opcode_table.json as numbers, in whole bytes (log 10). -/
theorem test_tableWord :
    decodeTableWord 8 0x03 = some .decode ∧ decodeTableWord 8 0x07 = some .halt ∧
    decodeTableWord 8 0x10 = some .fwHigh ∧ decodeTableWord 8 0x08 = some .blinkRight ∧
    decodeTableWord 16 0x214 = some (.outLevelOn .stop) ∧ decodeTableWord 16 0x681 = some (.outEnable .reverse true) ∧
    decodeTableWord 8 0x05 = some .stopHigh ∧ decodeTableWord 8 0xFF = none ∧
    decodeTableWord 16 0x800 = none := by decide

/-! ### WellFormed and the parameters -/

/-- R59: each strategy's filter is refused in the other's machine. -/
theorem test_wellFormed_refuses :
    Instr.wellFormed .consensus .filterMa = false ∧ Instr.wellFormed .movingAverage .filterCs = false := by decide

theorem test_wellFormed_accepts :
    Instr.wellFormed .consensus .filterCs = true ∧ Instr.wellFormed .movingAverage .filterMa = true ∧
    Instr.wellFormed .movingAverage .apply = true := by decide

/-- The parameters of 95_test_vectors. -/
def testRecord : ParamRecord where
  rangeMin := 1019
  rangeMax := 1971
  filterMode := .consensus
  consensusM := 4
  maN := 4
  clampId := true
  timerMode := .shared
  blinkInterval := 500

theorem testRecord_legal : testRecord.legal = true := by decide

/-- R7: a record that breaks any one constraint is refused. -/
theorem test_params_refuse :
    Params.ofRecord { testRecord with rangeMax := 1019 } = none ∧
    Params.ofRecord { testRecord with consensusM := 0 } = none ∧
    Params.ofRecord { testRecord with maN := 0 } = none ∧
    Params.ofRecord { testRecord with blinkInterval := 0 } = none ∧
    Params.ofRecord { testRecord with blinkInterval := 0x80000000 } = none ∧
    Params.ofRecord { testRecord with rangeMin := 1000, rangeMax := 1001 } = none := by decide

/-! ### Small states -/

/-- The machine of the vectors. -/
def csParams : Params := ⟨testRecord, testRecord_legal⟩

/-- The same with the moving average. -/
def maParams : Params := ⟨{ testRecord with filterMode := .movingAverage }, by decide⟩

/-- The same without the clamp. -/
def rawParams : Params := ⟨{ testRecord with clampId := false }, by decide⟩

/-- The same with one timer per channel. -/
def pcParams : Params := ⟨{ testRecord with timerMode := .perChannel }, by decide⟩

/-- An environment of the given answers, with `rst` deasserted in the next four steps. -/
def answers (cap : List CapWord) (ic : List Sample) (now : List Time) (draw : List CfgWord) : Env :=
  ⟨⟨[none, none, none, none], 0⟩, ⟨cap, 0⟩, ⟨ic, 0⟩, ⟨now, 0⟩, ⟨draw, 0⟩⟩

/-- The machine after reset, with the given parameters and answers. -/
def start (p : Params) (e : Env) : State := State.resetWith p Devices.quiet e

/-- The vectors' machine with clock readings. -/
def clocked (now : List Time) : State := start csParams (answers [] [] now [])

/-- The next state, or the state itself where there is none. -/
def after (i : Instr) (s : State) : State :=
  match exec i s with
  | .next t => t
  | .fault _ => s
  | .refused _ => s

/-- The code words an instruction drives on the ports. -/
def wordsOf (i : Instr) (s : State) : List CodeWord := ((after i s).ev.drop s.ev.length).map Event.word

/-- The light file in the vectors' order. -/
def lights (a b c d e f : LightState) : ChannelFile LightState := ⟨a, b, c, d, e, f⟩

/-! ### One step at a time, against 95_test_vectors -/

/-- I1. -/
theorem test_init_passes :
    (after .init (start csParams (answers [0] [] [] []))).phase = .sample ∧
    (after .init (start csParams (answers [0] [] [] []))).ls = lights .off .on .off .off .off .off ∧
    wordsOf .init (start csParams (answers [0] [] [] [])) =
      [.out 0x401, .out 0x481, .out 0x501, .out 0x581, .out 0x601, .out 0x681, .out 0x094] := by decide

/-- I2, I3, I4: nothing is wordsOf. -/
theorem test_init_fails :
    (after .init (start csParams (answers [1] [] [] []))).fault = .clockMismatch ∧
    (after .init (start csParams (answers [2] [] [] []))).fault = .bindingMismatch ∧
    (after .init (start csParams (answers [3] [] [] []))).fault = .clockMismatch ∧
    (after .init (start csParams (answers [3] [] [] []))).phase = .halt ∧
    wordsOf .init (start csParams (answers [3] [] [] [])) = [] := by decide

/-- A1, A3. -/
theorem test_sample :
    (after .sample (start csParams (answers [] [1500] [] []))).raw = 1500 ∧
    (after .sample (start csParams (answers [] [65535] [] []))).raw = 65535 ∧
    (after .sample (start csParams (answers [] [1500] [] []))).phase = .filter ∧
    wordsOf .sample (start csParams (answers [] [1500] [] [])) = [.icc 0b00, .icc 0b11, .icc 0b10] := by decide

/-- A filter state. -/
def csAt (buf : List Sample) (idx : Nat) (stable raw : Sample) : State :=
  { clocked [] with csBuf := buf, csIdx := idx, stable := stable, raw := raw, phase := .filter }

/-- F2, F4. -/
theorem test_filterCs_adopts :
    (after .filterCs (csAt [1971, 1971, 1971, 0] 3 0 1971)).stable = 1971 ∧
    (after .filterCs (csAt [1971, 1971, 1971, 0] 3 0 1971)).csIdx = 0 ∧
    (after .filterCs (csAt [1700, 1700, 1700, 1500] 3 1500 1501)).width = 1500 ∧
    (after .filterCs (csAt [1700, 1700, 1700, 1500] 3 1500 1501)).csBuf = [1700, 1700, 1700, 1501] := by decide

/-- F5, F6, F9. -/
theorem test_filterCs_rejects :
    (after .filterCs (csAt [1500, 1501, 1500, 1501] 0 1500 1500)).stable = 1500 ∧
    (after .filterCs (csAt [1500, 1501, 1500, 1501] 0 1400 1500)).stable = 1400 ∧
    (after .filterCs (csAt [1500, 1500, 1500, 1500] 2 1700 1500)).stable = 1500 ∧
    (after .filterCs (csAt [1500, 1500, 1500, 1500] 2 1700 1500)).phase = .decode := by decide

/-- A moving-average state. -/
def maAt (buf : List Sample) (idx sum : Nat) (raw : Sample) : State :=
  { start maParams (answers [] [] [] []) with maBuf := buf, maIdx := idx, maSum := sum, raw := raw, phase := .filter }

/-- M3, M2. -/
theorem test_filterMa_slides :
    (after .filterMa (maAt [1500, 1500, 1500, 1500] 0 6000 1520)).width = 6020 ∧
    (after .filterMa (maAt [1500, 1500, 1500, 1500] 0 6000 1520)).maBuf = [1520, 1500, 1500, 1500] ∧
    (after .filterMa (maAt [1500, 1500, 1500, 0] 3 4500 1500)).maIdx = 0 := by decide

/-- M6, M7. -/
theorem test_filterMa_extremes :
    (after .filterMa (maAt [65535, 65535, 65535, 65535] 0 262140 65535)).maSum = 262140 ∧
    (after .filterMa (maAt [65535, 65535, 65535, 65535] 0 262140 0)).maSum = 196605 := by decide

/-- A state before DECODE. -/
def widthAt (p : Params) (w : Nat) : State :=
  { start p (answers [] [] [] [0b101010]) with width := w, phase := .decode }

/-- D2, D5, D9, D13. -/
theorem test_decode_clamped :
    (after .decode (widthAt csParams 1971)).cfg = 0b111110 ∧ (after .decode (widthAt csParams 988)).cfg = 0 ∧
    (after .decode (widthAt csParams 1495)).cfg = 0b100000 ∧ (after .decode (widthAt csParams 1494)).cfg = 0b011110 ∧
    (after .decode (widthAt csParams 65535)).id = 3185 ∧ (after .decode (widthAt csParams 65535)).cfg = 62 ∧
    (after .decode (widthAt maParams 5979)).cfg = 30 ∧ (after .decode (widthAt maParams 6062)).cfg = 33 := by decide

/-- D14 to D17; the negative index takes the draw. -/
theorem test_decode_unclamped :
    (after .decode (widthAt rawParams 988)).id = -1 ∧ (after .decode (widthAt rawParams 988)).cfg = 0b101010 ∧
    (after .decode (widthAt rawParams 1982)).cfg = 0 ∧ (after .decode (widthAt rawParams 2500)).cfg = 33 ∧
    (after .decode (widthAt rawParams 65535)).cfg = 22 ∧ (after .decode (widthAt rawParams 989)).id = 0 := by decide

/-- A state with lights, one timer and clock readings. -/
def litAt (ls : ChannelFile LightState) (t : BlinkTimer) (now : List Time) : State :=
  { clocked now with ls := ls, bt := { ChannelFile.all BlinkTimer.reset with frontWhite := t } }

/-- All lights off but the always-on one. -/
def dark : ChannelFile LightState := lights .off .on .off .off .off .off

/-- P1, cycle 4. -/
theorem test_apply :
    (after .apply { litAt dark .reset [64] with cfg := 62, phase := .apply }).ls = lights .high .on .on .on .on .on ∧
    (after .apply { litAt dark .reset [64] with cfg := 62, phase := .apply }).phase = .sample ∧
    (after .apply { litAt dark .reset [64] with cfg := 62, phase := .apply }).bt.frontWhite = ⟨564, true⟩ ∧
    wordsOf .apply { litAt dark .reset [64] with cfg := 62 } =
      [.out 0x064, .out 0x214, .out 0x294, .out 0x114, .out 0x194] := by decide

/-- O18: the reserved word 3 runs both sub-operations. -/
theorem test_apply_reserved_word :
    wordsOf .apply { litAt dark .reset [] with cfg := 0b000011 } = [.out 0x264, .out 0x294] := by decide

/-- I5. -/
theorem test_halt :
    after .halt { clocked [] with phase := .halt, fault := .clockMismatch }
      = { clocked [] with phase := .halt, fault := .clockMismatch } := rfl

/-- O2, T3: the same state again makes no write. -/
theorem test_fwHigh :
    wordsOf .fwHigh (litAt (lights .on .on .off .off .off .off) .reset []) = [.out 0x064] ∧
    wordsOf .fwHigh (litAt (lights .high .on .off .off .off .off) .reset []) = [] := by decide

/-- O3, T2. -/
theorem test_fwOn :
    wordsOf .fwOn (litAt dark .reset []) = [.out 0x014] ∧
    wordsOf .fwOn (litAt (lights .high .on .off .off .off .off) .reset []) = [.out 0x014] := by decide

/-- O4. -/
theorem test_fwOff :
    (after .fwOff (litAt (lights .high .on .off .off .off .off) .reset [])).ls = dark ∧
    wordsOf .fwOff (litAt (lights .high .on .off .off .off .off) .reset []) = [.out 0x000] := by decide

/-- O5, O6. -/
theorem test_stopHigh :
    wordsOf .stopHigh (litAt dark .reset []) = [.out 0x264] ∧
    (after .stopHigh (litAt dark .reset [])).ls = lights .off .on .off .off .high .off := by decide

/-- O7. -/
theorem test_stopOn :
    wordsOf .stopOn (litAt (lights .off .on .off .off .high .off) .reset []) = [.out 0x214] := by decide

/-- O8. -/
theorem test_stopOff :
    wordsOf .stopOff (litAt (lights .off .on .off .off .on .off) .reset []) = [.out 0x200] := by decide

/-- O9. -/
theorem test_revOn : wordsOf .revOn (litAt dark .reset []) = [.out 0x294] := by decide

/-- O10, T4. -/
theorem test_revOff :
    wordsOf .revOff (litAt (lights .off .on .off .off .off .on) .reset []) = [.out 0x280] ∧
    wordsOf .revOff (litAt dark .reset []) = [] := by decide

/-- O11: the clock is not read and the timer is kept. -/
theorem test_blinkNone :
    wordsOf .blinkNone (litAt (lights .off .on .on .on .off .off) ⟨1564, true⟩ [9999]) = [.out 0x100, .out 0x180] ∧
    (after .blinkNone (litAt (lights .off .on .on .on .off .off) ⟨1564, true⟩ [9999])).bt.frontWhite = ⟨1564, true⟩ ∧
    (after .blinkNone (litAt (lights .off .on .on .on .off .off) ⟨1564, true⟩ [9999])).env.now.taken = 0 := by decide

/-- O12, O13. -/
theorem test_blinkLeft :
    (after .blinkLeft (litAt dark .reset [1000])).bt.frontWhite = ⟨1500, true⟩ ∧
    wordsOf .blinkLeft (litAt (lights .off .on .off .on .off .off) ⟨1500, true⟩ [1200]) = [.out 0x114, .out 0x180] := by
  decide

/-- O14. -/
theorem test_blinkRight :
    wordsOf .blinkRight (litAt (lights .off .on .on .off .off .off) ⟨1500, true⟩ [1200]) = [.out 0x194, .out 0x100] ∧
    (after .blinkRight (litAt (lights .off .on .on .off .off .off) ⟨1500, true⟩ [1200])).bt.frontWhite = ⟨1500, true⟩ := by
  decide

/-- O15, O16. -/
theorem test_blinkHazard_shared :
    wordsOf .blinkHazard (litAt (lights .off .on .on .off .off .off) ⟨1500, true⟩ [1800]) = [.out 0x100] ∧
    wordsOf .blinkHazard (litAt dark ⟨2300, false⟩ [2300]) = [.out 0x114, .out 0x194] := by decide

/-- O17's machine: each blinker has its own timer. -/
def perChannelAt (now : List Time) : State :=
  { start pcParams (answers [] [] now []) with
    ls := dark, bt := { ChannelFile.all BlinkTimer.reset with left := ⟨2000, false⟩ } }

/-- O17. -/
theorem test_blinkHazard_perChannel :
    wordsOf .blinkHazard (perChannelAt [1800, 1800]) = [.out 0x194] ∧
    (after .blinkHazard (perChannelAt [1800, 1800])).bt.left = ⟨2000, false⟩ ∧
    (after .blinkHazard (perChannelAt [1800, 1800])).bt.right = ⟨2300, true⟩ := by decide

/-- T8 to T10: a forced High blinker is left alone by a dark phase. -/
theorem test_blinkDrive :
    (blinkDrive .right false (litAt (lights .off .on .off .on .off .off) .reset [])).ls = dark ∧
    (blinkDrive .left false (litAt (lights .off .on .high .off .off .off) .reset [])).ls.left = .high := by decide

/-- B2, B3, B6, B7, B9, B10, B11. -/
theorem test_timer :
    BlinkTimer.eval 500 563 ⟨564, true⟩ = ⟨564, true⟩ ∧ BlinkTimer.eval 500 564 ⟨564, true⟩ = ⟨1064, false⟩ ∧
    BlinkTimer.eval 500 0xFFFFFF00 ⟨0xFFFFFF00, true⟩ = ⟨0x000000F4, false⟩ ∧
    BlinkTimer.eval 500 0x00000010 ⟨0xFFFFFF00, true⟩ = ⟨0x00000204, false⟩ ∧
    BlinkTimer.eval 500 0xFFFFFFF0 ⟨0x000000F4, false⟩ = ⟨0x000000F4, false⟩ ∧
    BlinkTimer.eval 500 0x7FFFFFFF ⟨0, false⟩ = ⟨0x800001F3, true⟩ ∧
    BlinkTimer.eval 500 0x80000000 ⟨0, false⟩ = ⟨0, false⟩ := by decide

theorem test_outLevelOff : wordsOf (.outLevelOff .stop) (clocked []) = [.out 0x200] := by decide
theorem test_outLevelOn : (after (.outLevelOn .right) (clocked [])).dev.level.right = 20 := by decide
theorem test_outLevelHigh : wordsOf (.outLevelHigh .frontWhite) (clocked []) = [.out 0x064] := by decide
theorem test_outEnable : wordsOf (.outEnable .reverse true) (clocked []) = [.out 0x681] := by decide
theorem test_icReset : wordsOf .icReset (clocked []) = [.icc 0b00] := by decide
theorem test_icEnable : wordsOf (.icEnable true) (clocked []) = [.icc 0b11] := by decide

/-- A state whose next step is reset after `n` actions. -/
def resetAt (n : Nat) (s : State) : State := { s with env := { s.env with rst := ⟨[some n], 0⟩ } }

/-- The state after a step, or the state itself where there is none. -/
def stepped (s : State) : State :=
  match step s with
  | .next t => t
  | .fault _ => s
  | .refused _ => s

/-- R116: a reset inside INIT, after the check and the first three enables, leaves three outputs enabled. -/
theorem test_reset_inside_init :
    (stepped (resetAt 4 (start csParams (answers [0] [] [] [])))).dev.enabled
      = ⟨true, true, true, false, false, false⟩ ∧
    (stepped (resetAt 4 (start csParams (answers [0] [] [] [])))).phase = .init ∧
    (stepped (resetAt 4 (start csParams (answers [0] [] [] [])))).ev = [] ∧
    (stepped (resetAt 8 (start csParams (answers [0] [] [] [])))).dev.level.frontBlue = 20 := by decide

/-- R116: a reset inside SAMPLE can leave the capture running, and one inside APPLY a lamp lit whose `LS` is Off. -/
theorem test_reset_inside_cycle :
    (stepped (resetAt 2 { start csParams (answers [] [1500] [] []) with phase := .sample })).dev.icEnabled = true ∧
    (stepped (resetAt 4 { start csParams (answers [] [1500] [] []) with phase := .sample })).dev.icEnabled = false ∧
    (stepped (resetAt 1 { start csParams (answers [] [] [] []) with phase := .apply, cfg := 0x11 })).dev.level
      = ⟨100, 0, 0, 0, 0, 0⟩ ∧
    (stepped (resetAt 1 { start csParams (answers [] [] [] []) with phase := .apply, cfg := 0x11 })).ls
      = ChannelFile.all .off := by decide

/-- R116: reset frees a machine whose word no rule covers. -/
theorem test_reset_frees_a_stuck_machine :
    (stepped (resetAt 3 { clocked [] with issue := some (.phase 5), raw := 9 })).raw = 0 := by decide

/-- A directly issued word runs as the first instruction after reset (log 9). -/
theorem test_withFetchWord :
    (State.reset.withFetchWord 8 0x10).rstAnswer = none ∧
    fetch (State.reset.withFetchWord 8 0x10) = .sub .frontWhite 0x10 ∧
    fetch (State.reset.withFetchWord 8 0x03) = .phase 3 ∧
    fetch (State.reset.withFetchWord 16 0x214) = .out 0x214 := ⟨rfl, rfl, rfl, rfl⟩

/-! ### States and operands that meet the hypotheses of the statements -/

/-- A state of a cycle, at a phase, with a configuration record. -/
def running (p : Params) (ph : Phase) (e : Env) : State := { start p e with phase := ph, ls := dark }

/-- A state before APPLY: width 0, its index, configuration 0. -/
def applying (p : Params) (e : Env) : State := { running p .apply e with id := -49 }

/-- No answers are scripted. -/
def silent : Env := answers [] [] [] []

/-- A halted machine. -/
def haltedState : State := { start csParams silent with phase := .halt, fault := .bindingMismatch }

theorem test_meets_DecodeOfEncode :
    Instr.wellFormed .consensus .filterCs = true ∧ Instr.wellFormed .movingAverage .filterMa = true ∧
    Instr.wellFormed .movingAverage (.outEnable .reverse true) = true := by decide

theorem test_meets_DecodedWord :
    decode .movingAverage (.phase 2) = .ok .filterMa ∧ decode .consensus (.sub .stop 0b111110) = .ok .stopOn ∧
    decode .consensus (.out 0b11010000001) = .ok (.outEnable .reverse true) ∧
    decode .consensus (.icc 0b10) = .ok (.icEnable false) := ⟨rfl, rfl, rfl, rfl⟩

theorem test_meets_SlotSelects :
    subMask .stopOn = some 0x21 ∧ encode .stopOn = .sub .stop 0x20 ∧ (0b111110 : CfgWord) &&& 0x21 = 0x20 ∧
    ¬ (0b111111 : CfgWord) &&& 0x21 = 0x20 := by decide

theorem test_meets_PackingRoundTrip :
    (0 < 48 ∧ 47 < 48) ∧ (62 : CfgWord).extractLsb' 0 2 ≠ 3 ∧ (63 : CfgWord).extractLsb' 0 2 = 3 := by decide

/-- Before the operation, and inside it. -/
theorem test_meets_ResetWipes :
    (resetAt 0 (applying csParams silent)).rstAnswer = some 0 ∧
    (resetAt 3 (applying csParams silent)).rstAnswer = some 3 := ⟨rfl, rfl⟩

/-- Each clause, at its places where the outcome changes. -/
theorem test_meets_ResetInside :
    ((resetAt 7 (start csParams (answers [0] [] [] []))).rstAnswer = some 7 ∧
      (resetAt 7 (start csParams (answers [0] [] [] []))).phase = .init ∧
      (resetAt 7 (start csParams (answers [0] [] [] []))).capAnswer = 0) ∧
    ((resetAt 8 (start csParams (answers [0] [] [] []))).rstAnswer = some 8 ∧
      (resetAt 8 (start csParams (answers [0] [] [] []))).ls.frontBlue ≠ .on) ∧
    ((resetAt 2 (running csParams .sample silent)).rstAnswer = some 2 ∧
      (resetAt 2 (running csParams .sample silent)).phase = .sample) ∧
    (resetAt 3 (running csParams .sample silent)).rstAnswer = some 3 ∧
    ((resetAt 1 (start csParams (answers [2] [] [] []))).rstAnswer = some 1 ∧
      (resetAt 1 (start csParams (answers [2] [] [] []))).phase = .init ∧
      (resetAt 1 (start csParams (answers [2] [] [] []))).capAnswer ≠ 0) ∧
    (resetAt 1 (running csParams .filter silent)).phase = .filter ∧
    (resetAt 1 (running csParams .decode silent)).phase = .decode ∧ (resetAt 1 haltedState).phase = .halt ∧
    ((resetAt 1 (applying csParams silent)).rstAnswer = some 1 ∧
      (resetAt 1 (applying csParams silent)).phase = .apply ∧ (resetAt 1 (applying csParams silent)).issue = none) := by
  decide

/-- The longest operation: INIT is taken apart into nine actions. -/
theorem test_meets_ActionsMakeUp :
    (actions .init (start csParams (answers [0] [] [] []))).length = 9 ∧
    exec .init (start csParams (answers [0] [] [] []))
      = .next (after .init (start csParams (answers [0] [] [] []))) := ⟨rfl, rfl⟩

/-- A phase code and a directly issued word, each run with `rst` not asserted. -/
theorem test_meets_StepRuns :
    (running csParams .filter silent).rstAnswer = none ∧
    decode .consensus (fetch (running csParams .filter silent)) = .ok .filterCs ∧
    (running csParams .filter silent).issue = none ∧
    decode .consensus (fetch { running csParams .sample silent with issue := some (.icc 3) })
      = .ok (.icEnable true) := ⟨rfl, rfl, rfl, rfl⟩

theorem test_meets_StepStops :
    ({ running csParams .sample silent with issue := some (.phase 5) } : State).rstAnswer = none ∧
    decode .consensus (fetch { running csParams .sample silent with issue := some (.phase 5) })
      = .error .reservedPhase := ⟨rfl, rfl⟩

/-- The invariant holds at the first phase of a run, whatever the capability check is going to answer. -/
theorem test_inv_init :
    (start csParams (answers [0] [] [] [])).Inv ∧ (start csParams (answers [2] [] [] [])).Inv := by
  constructor <;>
    exact ⟨rfl, by decide, by decide, by decide, by decide, by decide, (fun h => nomatch h), by decide, by decide,
      by decide, by decide, (fun _ => rfl), by decide, by decide, ⟨rfl, rfl, rfl, And.intro rfl rfl⟩⟩

/-- The invariant holds at the three phases of a cycle before APPLY, in each kind of machine. -/
theorem test_inv_running :
    (running csParams .sample silent).Inv ∧ (running csParams .filter silent).Inv ∧
    (running maParams .filter silent).Inv ∧ (running csParams .decode silent).Inv := by
  refine ⟨?_, ?_, ?_, ?_⟩ <;>
    exact ⟨rfl, by decide, by decide, by decide, by decide, by decide, fun _ => rfl, by decide, by decide, by decide,
      by decide, by decide, by decide, by decide, ⟨rfl, rfl, rfl, And.intro rfl rfl⟩⟩

theorem test_inv_applying : (applying csParams silent).Inv :=
  ⟨rfl, by decide, by decide, by decide, by decide, by decide, (fun h => nomatch h), by decide, by decide, by decide,
    by decide, by decide, by decide, by decide, ⟨rfl, rfl, rfl, And.intro rfl rfl⟩⟩

theorem test_inv_halted : haltedState.Inv :=
  ⟨rfl, by decide, by decide, by decide, by decide, by decide, (fun h => nomatch h), by decide, by decide, by decide,
    by decide, by decide, by decide, by decide, ⟨rfl, rfl, rfl, And.intro rfl rfl⟩⟩

/-- Every phase, and both answers of the capability check. -/
theorem test_meets_TransitionTable :
    ((start csParams (answers [0] [] [] [])).Inv ∧ (start csParams (answers [0] [] [] [])).capAnswer = 0) ∧
    ((start csParams (answers [2] [] [] [])).Inv ∧ (start csParams (answers [2] [] [] [])).capAnswer = 2) ∧
    ((applying csParams silent).Inv ∧ (applying csParams silent).phase = .apply) ∧
    (haltedState.Inv ∧ haltedState.phase = .halt) ∧
    (applying csParams silent).rstAnswer = none ∧ haltedState.rstAnswer = none :=
  ⟨⟨test_inv_init.1, rfl⟩, ⟨test_inv_init.2, rfl⟩, ⟨test_inv_applying, rfl⟩, ⟨test_inv_halted, rfl⟩, rfl, rfl⟩

theorem test_meets_Init :
    (start csParams (answers [0] [] [] [])).capAnswer = 0 ∧ (start csParams (answers [1] [] [] [])).capAnswer ≠ 0 ∧
    (start csParams (answers [2] [] [] [])).capAnswer ≠ 0 ∧
    (start csParams (answers [3] [] [] [])).capAnswer ≠ 0 := by decide

theorem test_meets_HaltIsAbsorbing :
    haltedState.phase = .halt ∧ haltedState.issue = none ∧ quietRst 4 haltedState :=
  ⟨rfl, rfl, rfl⟩

/-- F2, F4 and F5: the window agrees and is news; it does not agree; it is no news. -/
theorem test_meets_ConsensusFilterStep :
    ((csAt [1971, 1971, 1971, 0] 3 0 1971).csBuf.length = 4 ∧ (csAt [1971, 1971, 1971, 0] 3 0 1971).csIdx < 4 ∧
      (1971 : Sample) ≠ 0 ∧ ∀ i < 4, ([1971, 1971, 1971, 0].set 3 1971 : List Sample)[i]? = some 1971) ∧
    ((csAt [1700, 1700, 1700, 1500] 3 1500 1501).csBuf.length = 4 ∧
      ¬ ∀ i < 4, ([1700, 1700, 1700, 1500].set 3 1501 : List Sample)[i]? = some 1501) ∧
    ((csAt [1500, 1501, 1500, 1501] 0 1500 1500).raw = (csAt [1500, 1501, 1500, 1501] 0 1500 1500).stable) := by
  decide

theorem test_meets_ConsensusAdopts :
    ringOk .cs (csAt [1971, 1971, 1971, 0] 3 0 1971) = true ∧
    (after .filterCs (csAt [1971, 1971, 1971, 0] 3 0 1971)).csBuf = [1971, 1971, 1971, 1971] ∧
    ringOk .cs (csAt [1500, 1500, 1500, 1500] 0 1500 1700) = true ∧
    (after .filterCs (csAt [1500, 1500, 1500, 1500] 0 1500 1700)).csBuf = [1700, 1500, 1500, 1500] := by decide

theorem test_meets_EqualSamples : ringOk .cs (csAt [7, 8, 9, 10] 3 5 0) = true := by decide

/-- The longest history the statement speaks of: one other sample, then `CONSENSUS_M - 1` of the value. -/
theorem test_meets_NoAcceptance :
    ringOk .cs (csAt [7, 7, 7, 7] 3 5 0) = true ∧ (csAt [7, 7, 7, 7] 3 5 0).stable ≠ 7 ∧ (8 : Sample) ≠ 7 ∧
    ([7, 7, 7] : List Sample).length < csParams.consensusM := by decide

theorem test_meets_AlmostFull :
    ringOk .cs (csAt [7, 7, 7, 7] 3 5 0) = true ∧ 2 ≤ csParams.consensusM ∧ (8 : Sample) ≠ 7 ∧ (9 : Sample) ≠ 7 := by
  decide

theorem test_meets_Jitter :
    ringOk .cs (csAt [7, 7, 7, 7] 3 5 0) = true ∧ 2 ≤ csParams.consensusM ∧
    List.IsChain (fun a b : Sample => a ≠ b) [1500, 1501, 1500, 1501, 1500] := by decide

theorem test_meets_MovingAverage :
    (maAt [65535, 65535, 65535, 65535] 3 262140 0).maBuf.length = maParams.maN ∧
    (maAt [65535, 65535, 65535, 65535] 3 262140 0).maIdx < maParams.maN ∧
    (maAt [65535, 65535, 65535, 65535] 3 262140 0).maSum
      = ((maAt [65535, 65535, 65535, 65535] 3 262140 0).maBuf.map BitVec.toNat).sum := by decide

/-- The last index of each ring. -/
theorem test_meets_FiltersStayInside :
    Memory.wf (csAt [7, 7, 7, 7] 3 5 0) = true ∧ Memory.wf (maAt [7, 7, 7, 7] 3 28 0) = true := by decide

/-- The model's own stop, outside the rings (log 12). -/
theorem test_outside_ring :
    ringOk .cs (csAt [7, 7, 7, 7] 4 5 0) = false ∧ ringOk .cs (csAt [7, 7, 7] 0 5 0) = false ∧
    ringOk .ma (maAt [7, 7, 7, 7] 4 28 0) = false := by decide

/-- Below, inside and above the range, and the moving average's denominator. -/
theorem test_meets_DecodeClamps :
    (widthAt csParams 988).par.clampId = true ∧ idRaw csParams 988 = -1 ∧ idRaw csParams 1981 = 47 ∧
    idRaw csParams 1982 = 48 ∧ (widthAt maParams 5980).par.clampId = true ∧ idRaw maParams 5980 = 24 := by decide

theorem test_meets_DecodeUnclamped :
    (widthAt rawParams 989).par.clampId = false ∧ 0 ≤ idRaw rawParams 989 ∧ idRaw rawParams 988 < 0 := by decide

/-- A width of bucket 1, the two ends of bucket 0, and a width of bucket -1. -/
theorem test_meets_BucketBoundaries :
    idRaw csParams 1030 = 1 ∧ idRaw csParams 1029 = 0 ∧ idRaw csParams 989 = 0 ∧ idRaw csParams 988 = -1 := by decide

theorem test_meets_Monotone : (1494 ≤ 1495) ∧ idRaw csParams 1494 = 23 ∧ idRaw csParams 1495 = 24 := by decide

/-- The first width of bucket 47, and the last of bucket 0. -/
theorem test_meets_ClampCovers :
    csParams.clampId = true ∧ (94 * ((1029 : Int) - 1019) < 952) ∧ (93 * 952 ≤ 94 * ((1961 : Int) - 1019)) := by decide

theorem test_meets_Fits : 262140 ≤ denominator maParams * 65535 ∧ 65535 ≤ denominator csParams * 65535 := by decide

theorem test_meets_DecodeIsPure :
    (widthAt csParams 1500).par = ({ widthAt csParams 1500 with stable := 3, id := 9 } : State).par ∧
    (widthAt csParams 1500).par.clampId = true ∧
    (widthAt csParams 1500).width = ({ widthAt csParams 1500 with stable := 3, id := 9 } : State).width :=
  ⟨rfl, rfl, rfl⟩

theorem test_meets_TimerEvaluation :
    reached (clocked [0x7FFFFFFF]).clockAnswer ((clocked [0x7FFFFFFF]).bt.get .frontWhite).nextToggle = true ∧
    reached (clocked [0x80000000]).clockAnswer ((clocked [0x80000000]).bt.get .frontWhite).nextToggle = false := by
  decide

theorem test_meets_ReachedIsWrapSafe :
    (0x100000010 < 0xFFFFFF00 + 2 ^ 31 ∧ 0xFFFFFF00 < 0x100000010 + 2 ^ 31 ∧ 0xFFFFFF00 ≤ 0x100000010) ∧
    (0xFFFFFEFF < 0xFFFFFF00 + 2 ^ 31 ∧ 0xFFFFFF00 < 0xFFFFFEFF + 2 ^ 31 ∧ ¬ 0xFFFFFF00 ≤ 0xFFFFFEFF) := by decide

theorem test_meets_NoToggle :
    reached 0xFFFFFF00 0xFFFFFF00 = true ∧ clkMono [0xFFFFFF00, 0x000000F4] = true ∧
    ¬ ((0x000000F4 : Time) - 0xFFFFFF00).toNat < 500 ∧ clkMono [0xFFFFFF00, 0x000000F3] = true ∧
    ((0x000000F3 : Time) - 0xFFFFFF00).toNat < 500 := by decide

/-- Both timer modes of BLINK.LEFT and BLINK.RIGHT. -/
theorem test_meets_Blink :
    Channel.frontWhite = tsel (litAt dark ⟨1500, true⟩ [1200]).par.timerMode .left ∧
    Channel.right = tsel (perChannelAt [1800]).par.timerMode .right ∧
    (⟨1500, true⟩ : BlinkTimer) = ((litAt dark ⟨1500, true⟩ [1200]).bt.get .frontWhite).eval 500
      (litAt dark ⟨1500, true⟩ [1200]).clockAnswer ∧
    (⟨2300, true⟩ : BlinkTimer) = ((perChannelAt [1800]).bt.get .right).eval 500 (perChannelAt [1800]).clockAnswer := by
  decide

theorem test_meets_HazardShared :
    (litAt dark ⟨2300, false⟩ [2300]).par.timerMode = .shared ∧
    (⟨2800, true⟩ : BlinkTimer) = (litAt dark ⟨2300, false⟩ [2300]).bt.frontWhite.eval 500
      (litAt dark ⟨2300, false⟩ [2300]).clockAnswer := by decide

theorem test_meets_HazardPerChannel :
    (perChannelAt [1800, 1800]).par.timerMode = .perChannel ∧
    (⟨2000, false⟩ : BlinkTimer) = (perChannelAt [1800, 1800]).bt.left.eval 500
      ((perChannelAt [1800, 1800]).env.now.next Config.freeClock) ∧
    (⟨2300, true⟩ : BlinkTimer) = (perChannelAt [1800, 1800]).bt.right.eval 500
      ((perChannelAt [1800, 1800]).env.now.advance.next Config.freeClock) := by decide

/-- A machine with per-channel timers in hazard, each reading before its deadline after the first APPLY. -/
def driftAt : State := { perChannelAt [2000, 2001] with cfg := 0b001100 }

/-- P1, cycles 4 and 5; a word without blinking, whatever the clock says; and per-channel timers. -/
theorem test_meets_SecondApply :
    (litAt dark .reset [64]).ls.left ≠ .high ∧ (litAt dark .reset [64]).ls.right ≠ .high ∧
    noToggle { after .apply { litAt dark .reset [64] with cfg := 62 } with env := answers [] [] [80] [] } = true ∧
    noToggle { after .apply (litAt dark .reset []) with env := answers [] [] [9999] [] } = true ∧
    noToggle { after .apply driftAt with env := answers [] [] [2499, 2500] [] } = true ∧
    noToggle { after .apply driftAt with env := answers [] [] [2500, 2500] [] } = false := by decide

theorem test_meets_HazardSynchronous :
    (litAt dark .reset [64]).par.timerMode = .shared ∧ cfgBlink 62 = 3 ∧ (litAt dark .reset [64]).ls.left ≠ .high ∧
    (litAt dark .reset [64]).ls.right ≠ .high := by decide

/-- Each kind of stop and of next state of a step that keeps the levels: here SAMPLE. -/
theorem test_meets_Levels :
    levelsAgree (start csParams silent) ∧ (start csParams silent).issue = none ∧
    (start csParams (answers [0] [] [] [])).rstAnswer = none ∧
    step (start csParams (answers [0] [] [] []))
      = .next (stepped (start csParams (answers [0] [] [] []))) := by
  refine ⟨?_, rfl, rfl, rfl⟩
  intro c
  cases c <;> rfl

theorem test_meets_FourSteps :
    (running csParams .sample silent).Inv ∧ (running csParams .sample silent).phase = .sample ∧
    quietRst 4 (running csParams .sample silent) := ⟨test_inv_running.1, rfl, rfl⟩

/-- A cycle in darkness: the first sample after reset. -/
def darkCycle : State := running csParams .sample (answers [] [1971] [] [])

/-- What that cycle leads to. -/
def darkCycleEnd : State := stepped (stepped (stepped (stepped darkCycle)))

theorem test_meets_NothingIsLit :
    darkCycle.phase = .sample ∧ quietRst 4 darkCycle ∧ darkCycle.par.filterMode = .consensus ∧
    darkCycle.par.clampId = true ∧ idRaw darkCycle.par 0 ≤ 0 ∧
    darkCycle.ls = { ChannelFile.all LightState.off with frontBlue := .on } ∧
    Host.Core.run Sys2Proof.core 4 darkCycle = .next darkCycleEnd ∧ darkCycleEnd.stable = 0 :=
  ⟨rfl, rfl, rfl, rfl, by decide, rfl, rfl, by decide⟩

theorem test_inv_darkCycle : darkCycle.Inv :=
  ⟨rfl, by decide, by decide, by decide, by decide, by decide, (fun h => nomatch h), by decide, by decide, by decide,
    by decide, by decide, by decide, by decide, ⟨rfl, rfl, rfl, And.intro rfl rfl⟩⟩

/-- Each of the four stages, on a state where it completes. -/
theorem test_meets_DataFlows :
    exec .sample (running csParams .sample silent) = .next (after .sample (running csParams .sample silent)) ∧
    exec .filterMa (running maParams .filter silent) = .next (after .filterMa (running maParams .filter silent)) ∧
    exec .decode (widthAt csParams 1500) = .next (after .decode (widthAt csParams 1500)) := ⟨rfl, rfl, rfl⟩

/-- One instruction that completes, for the statements about every instruction. -/
theorem test_meets_EveryInstruction :
    exec .filterCs (csAt [1971, 1971, 1971, 0] 3 0 1971)
      = .next (after .filterCs (csAt [1971, 1971, 1971, 0] 3 0 1971)) ∧
    exec .blinkLeft (litAt dark .reset [1000]) = .next (after .blinkLeft (litAt dark .reset [1000])) := ⟨rfl, rfl⟩

end Sys2Proof.Tests
end

section
/-!
PROOF of O30. R7's last constraint bounds `num` of R66 on both sides by multiples of `den`, for every width of R13.
-/

namespace Sys2Proof.Machine

/-! ### trunc0 between bounds (R8) -/

theorem trunc0_lt {n d k : Int} (hd : 0 < d) (hk : 0 < k) (h : n < k * d) : trunc0 n d < k := by
  unfold trunc0
  rcases le_total 0 n with hn | hn
  · rw [Int.tdiv_eq_ediv_of_nonneg hn]
    exact Int.ediv_lt_of_lt_mul hd h
  · have : n.tdiv d ≤ 0 := by simpa using Int.tdiv_le_tdiv hd hn
    omega

theorem neg_lt_trunc0 {n d k : Int} (hd : 0 < d) (hk : 0 < k) (h : -(k * d) < n) : -k < trunc0 n d := by
  have hneg : trunc0 (-n) d < k := trunc0_lt hd hk (by omega)
  rw [trunc0, Int.neg_tdiv] at hneg
  unfold trunc0
  omega

/-! ### The index of R66 -/

/-- R7's last constraint, in terms of `SPAN`. -/
theorem span_fits (p : Params) :
    94 * (65535 - (p.rangeMin.toNat : Int)) + span p < 65536 * span p ∧
    94 * (p.rangeMin.toNat : Int) < 65539 * span p := by
  have hfits : p.idFits = true := by
    have h := p.isLegal
    rw [ParamRecord.legal, Bool.and_eq_true] at h
    exact h.2
  obtain ⟨hmax, hmin⟩ := by simpa only [ParamRecord.idFits, Bool.and_eq_true, decide_eq_true_eq] using hfits
  have hlt := (params_bounds p).1
  have hle := p.rangeMin.isLt
  unfold span
  omega

theorem idDen_pos (p : Params) : 0 < idDen p := by
  have hD : (0 : Int) < denominator p := by exact_mod_cast denominator_pos p
  have hS := span_pos p
  unfold idDen
  positivity

/-- The largest width lies below the boundary of bucket 32768. -/
theorem idNum_lt (p : Params) {w : Nat} (hw : w ≤ denominator p * 65535) : idNum p w < 32768 * idDen p := by
  have hD : (0 : Int) < denominator p := by exact_mod_cast denominator_pos p
  have hw' : (w : Int) ≤ denominator p * 65535 := by exact_mod_cast hw
  calc idNum p w
      ≤ denominator p * (94 * (65535 - (p.rangeMin.toNat : Int)) + span p) := by
        simp only [idNum, Config.configCount]; push_cast; linarith
    _ < denominator p * (65536 * span p) := mul_lt_mul_of_pos_left (span_fits p).1 hD
    _ = 32768 * idDen p := by rw [idDen]; ring

/-- Width 0 lies above the boundary of bucket -32769. -/
theorem neg_lt_idNum (p : Params) (w : Nat) : -(32769 * idDen p) < idNum p w := by
  have hD : (0 : Int) < denominator p := by exact_mod_cast denominator_pos p
  have hmin : denominator p * (94 * (p.rangeMin.toNat : Int)) < denominator p * (65539 * span p) :=
    mul_lt_mul_of_pos_left (span_fits p).2 hD
  simp only [idNum, idDen, Config.configCount]
  push_cast
  linarith

theorem idRaw_bounds (p : Params) {w : Nat} (hw : w ≤ denominator p * 65535) :
    -32768 ≤ idRaw p w ∧ idRaw p w < 32768 := by
  have hlow : -32769 < idRaw p w := neg_lt_trunc0 (idDen_pos p) (by decide) (neg_lt_idNum p w)
  exact ⟨by omega, trunc0_lt (idDen_pos p) (by decide) (idNum_lt p hw)⟩

/-- Settles O30: the index lies between -2^15 and 2^15, so packing it into the register loses nothing. -/
theorem bucketIndexFitsItsRegister : Obligations.BucketIndexFitsItsRegister := by
  intro p w hw
  obtain ⟨hlow, hhigh⟩ := idRaw_bounds p hw
  exact BitVec.toInt_ofInt_eq_self (by decide) hlow hhigh

end Sys2Proof.Machine
end

section
/-!
PROOF of O56. Each operation's footprint, the state components it can change, and from it the writers of each register.
-/

namespace Sys2Proof.Machine

/-- Nothing outside the components the operation's rule writes differs (R57, R60, R63, R69, R74, R86, R96, R100). -/
def Footprint (i : Instr) (s t : State) : Prop :=
  match i with
  | .init => t = { s with
      phase := t.phase, fault := t.fault, ls := t.ls, ev := t.ev, dev := t.dev, env := t.env }
  | .sample => t = { s with phase := t.phase, raw := t.raw, ev := t.ev, dev := t.dev, env := t.env }
  | .filterCs => t = { s with
      phase := t.phase, csBuf := t.csBuf, csIdx := t.csIdx, stable := t.stable, width := t.width }
  | .filterMa => t = { s with
      phase := t.phase, maBuf := t.maBuf, maIdx := t.maIdx, maSum := t.maSum, width := t.width }
  | .decode => t = { s with phase := t.phase, id := t.id, cfg := t.cfg, env := t.env }
  | .apply => onlyBlink { s with phase := t.phase } t
  | .halt => t = s
  | .fwHigh | .fwOn | .fwOff | .stopHigh | .stopOn | .stopOff | .revOn | .revOff | .blinkNone => onlyLights s t
  | .blinkLeft | .blinkRight | .blinkHazard => onlyBlink s t
  | .outLevelOff _ | .outLevelOn _ | .outLevelHigh _ | .outEnable _ _ | .icReset | .icEnable _ =>
    t = { s with ev := t.ev, dev := t.dev }

/-! ### One lemma per kind of operation -/

theorem turn_onlyLights (c : Channel) (v : LightState) (s : State) : onlyLights s (turn c v s) := by
  unfold onlyLights turn
  split <;> rfl

theorem onlyLights.trans {s t u : State} (h : onlyLights s t) (k : onlyLights t u) : onlyLights s u := by
  unfold onlyLights at *
  rw [k, h]

theorem init_footprint (s : State) : Footprint .init s (perform (initActions s) s) := by
  by_cases hc : s.capAnswer = 0
  · rw [perform_initActions_pass s hc]
    apply State.ext <;> simp [perform_enableActions]
  · rw [perform_initActions_fail s hc]
    rfl

theorem exec_filterCs_eq_next {s t : State} :
    exec .filterCs s = .next t ↔ ringOk .cs s = true ∧ filterCs s = t := by
  simp only [exec, execFilterCs]
  split <;> simp [*]

theorem exec_filterMa_eq_next {s t : State} :
    exec .filterMa s = .next t ↔ ringOk .ma s = true ∧ filterMa s = t := by
  simp only [exec, execFilterMa]
  split <;> simp [*]

theorem filterCs_footprint {s : State} (h : ringOk .cs s = true) : Footprint .filterCs s (filterCs s) := by
  obtain ⟨hframe, -, -⟩ := filterCs_spec s h
  unfold Footprint
  generalize filterCs s = t at *
  rw [hframe]

theorem decode_footprint (s : State) : Footprint .decode s (perform (decodeActions s) s) := by
  simp only [decodeActions, perform_cons, perform_nil, writeCfg]
  split <;> rfl

theorem LightRun.onlyBlink {s t : State} (h : LightRun s t) : onlyBlink s t := h.frame

theorem apply_footprint (s : State) : Footprint .apply s (perform (applyActions s) s) := by
  have hrun := (slotActions_lightRun s.cfg s).onlyBlink
  simp only [applyActions, perform_append, perform_cons, perform_nil]
  generalize perform (slotActions s.cfg s.par.timerMode) s = t at *
  unfold Footprint onlyBlink at *
  rw [hrun]
  rfl

/-- What an operation that completes can have changed. -/
theorem exec_footprint {i : Instr} {s t : State} (h : exec i s = .next t) : Footprint i s t := by
  cases i with
  | init => cases h; exact init_footprint s
  | sample => cases h; rw [perform_sampleActions]; rfl
  | filterCs =>
    obtain ⟨hr, rfl⟩ := exec_filterCs_eq_next.1 h
    exact filterCs_footprint hr
  | filterMa =>
    obtain ⟨-, rfl⟩ := exec_filterMa_eq_next.1 h
    rw [filterMa_eq]; rfl
  | decode => cases h; exact decode_footprint s
  | apply => cases h; exact apply_footprint s
  | halt => cases h; rfl
  | fwHigh | fwOn | fwOff | stopHigh | stopOn | stopOff | revOn | revOff => cases h; exact turn_onlyLights _ _ s
  | blinkNone => cases h; exact (turn_onlyLights _ _ s).trans (turn_onlyLights _ _ _)
  | blinkLeft => cases h; exact LightRun.refl.blinkLeft.onlyBlink
  | blinkRight => cases h; exact LightRun.refl.blinkRight.onlyBlink
  | blinkHazard => cases h; exact LightRun.refl.blinkHazard.onlyBlink
  | outLevelOff | outLevelOn | outLevelHigh | outEnable | icReset | icEnable => cases h; rfl

/-- Settles O56: a register outside an operation's footprint is as it was, and the operations the statement names are
those whose footprint holds the register. -/
theorem eachRegisterHasItsWriters : Obligations.EachRegisterHasItsWriters := by
  intro i s t h
  have hf := exec_footprint h
  cases i with
  | init | sample | filterCs | filterMa | decode | halt =>
    simp only [Footprint] at hf
    rw [hf]
    simp [writesLights, writesTimers, isSubOperation, subMask]
  | apply | blinkLeft | blinkRight | blinkHazard =>
    simp only [Footprint, onlyBlink] at hf
    rw [hf]
    simp [writesLights, writesTimers, isSubOperation, subMask]
  | fwHigh | fwOn | fwOff | stopHigh | stopOn | stopOff | revOn | revOff | blinkNone =>
    simp only [Footprint, onlyLights] at hf
    rw [hf]
    simp [writesLights, isSubOperation, subMask]
  | outLevelOff | outLevelOn | outLevelHigh | outEnable | icReset | icEnable =>
    simp only [Footprint] at hf
    rw [hf]
    simp

end Sys2Proof.Machine
end

section
/-!
PROOF of O10. What one step runs (R16, R95, R116).
-/

namespace Sys2Proof.Machine

/-- The operation a value of `PHASE` names in a machine with the given `FILTER_MODE` (R47, R59). -/
def phaseInstr (mode : FilterMode) : Phase → Instr
  | .init => .init
  | .sample => .sample
  | .filter =>
    match mode with
    | .consensus => .filterCs
    | .movingAverage => .filterMa
  | .decode => .decode
  | .apply => .apply
  | .halt => .halt

theorem decode_phase_code (mode : FilterMode) (p : Phase) :
    decode mode (.phase p.code) = .ok (phaseInstr mode p) := by
  cases p with
  | filter => cases mode <;> rfl
  | init | sample | decode | apply | halt => rfl

theorem fetch_of_noIssue {s : State} (h : s.issue = none) : fetch s = .phase s.phase.code := by
  rw [fetch, h]

theorem step_of_rst {s : State} {n : Nat} (hr : s.rstAnswer = some n) : step s = .next (resetInside n s) := by
  rw [step, hr]

theorem step_of_decode {s : State} {i : Instr} (hr : s.rstAnswer = none)
    (hd : decode s.par.filterMode (fetch s) = .ok i) : step s = exec i (fetched s) := by
  simp only [step, hr, hd]

/-- Without reset and with an empty latch, a step is the operation of the phase. -/
theorem step_of_noIssue {s : State} (hr : s.rstAnswer = none) (hi : s.issue = none) :
    step s = exec (phaseInstr s.par.filterMode s.phase) (fetched s) :=
  step_of_decode hr (by rw [fetch_of_noIssue hi, decode_phase_code])

/-- Settles O10: the two branches of a step without reset. -/
theorem stepRunsTheDecodedInstruction : Obligations.StepRunsTheDecodedInstruction :=
  fun _ hr => ⟨fun _ hd => step_of_decode hr hd, fetch_of_noIssue⟩

end Sys2Proof.Machine
end

section
/-!
PROOF of O23. FILTER.MA is one update, whose new sum the laws on `newSum` describe (R63).
-/

namespace Sys2Proof.Machine

/-- The new running sum is at most the ring's size times the largest sample (R22). -/
theorem newSum_le {s : State} (h : ringOk .ma s = true) (hs : s.maSum = (s.maBuf.map BitVec.toNat).sum) :
    newSum s ≤ s.par.maN * 65535 := by
  obtain ⟨-, -, -, hsum⟩ := newSum_spec s h hs
  have hlen : (s.maBuf.set s.maIdx s.raw).length = s.par.maN := by simpa using ((ringOk_ma s).1 h).1
  rw [hsum, ← hlen]
  exact sum_le _

/-- Settles O23: the evicted word is the ring's at the index, and the sum changes by the difference. -/
theorem movingAverageFilterStep : Obligations.MovingAverageFilterStep := by
  intro s hlen hidx hsum
  have hring : ringOk .ma s = true := (ringOk_ma s).2 ⟨hlen, hidx⟩
  obtain ⟨evicted, hev, hdiff, hnew⟩ := newSum_spec s hring hsum
  refine ⟨filterMa s, evicted, exec_filterMa_eq_next.2 ⟨hring, rfl⟩, hev, ?_⟩
  rw [filterMa_eq]
  exact ⟨by simp only; omega, hnew, newSum_le hring hsum, rfl, rfl, rfl, rfl⟩

end Sys2Proof.Machine
end

section
/-!
PROOF of O53. A TURN keeps the peripheral's levels the ones `LS` believes (R86, R111); INIT and APPLY change levels and
lights by TURNs alone, and the other operations of the sequencer change neither.
-/

namespace Sys2Proof.Machine

/-- Only the levels and the lights count. -/
theorem levelsAgree.congr {s t : State} (h : levelsAgree s) (hlevel : t.dev.level = s.dev.level)
    (hls : t.ls = s.ls) : levelsAgree t := by
  unfold levelsAgree
  rw [hlevel, hls]
  exact h

theorem levelsAgree.turn {s : State} (h : levelsAgree s) (c : Channel) (v : LightState) :
    levelsAgree (turn c v s) := by
  intro d
  rw [turn_level, turn_ls, ChannelFile.get_set]
  by_cases hd : d = c
  · subst hd
    by_cases hv : s.ls.get d = v
    · simpa [hv] using h d
    · simp [hv]
  · simpa [hd] using h d

theorem levelsAgree.lightRun {s t : State} (h : levelsAgree s) (hrun : LightRun s t) : levelsAgree t := by
  induction hrun with
  | refl => exact h
  | turn c v _ _ _ ih => exact ih.turn c v
  | eval c _ _ ih => exact ih.congr rfl rfl

theorem levelsAgree.init {s : State} (h : levelsAgree s) : levelsAgree (perform (initActions s) s) := by
  by_cases hc : s.capAnswer = 0
  · rw [perform_initActions_pass s hc]
    have henabled : levelsAgree (perform enableActions (tookCap s)) := by
      rw [perform_enableActions]; exact h.congr rfl rfl
    exact (henabled.turn .frontBlue .on).congr rfl rfl
  · rw [perform_initActions_fail s hc]
    exact h.congr rfl rfl

theorem levelsAgree.apply {s : State} (h : levelsAgree s) : levelsAgree (perform (applyActions s) s) := by
  rw [applyActions, perform_append]
  exact (h.lightRun (slotActions_lightRun s.cfg s)).congr rfl rfl

/-- Every operation of the sequencer that completes keeps the levels in agreement. -/
theorem levelsAgree.exec_phaseInstr {s t : State} {mode : FilterMode} {p : Phase} (h : levelsAgree s)
    (he : exec (phaseInstr mode p) s = .next t) : levelsAgree t := by
  have hf := exec_footprint he
  cases p with
  | init => cases he; exact h.init
  | sample => cases he; rw [perform_sampleActions]; exact h.congr rfl rfl
  | filter => cases mode <;> (simp only [phaseInstr, Footprint] at hf; rw [hf]; exact h.congr rfl rfl)
  | decode => simp only [phaseInstr, Footprint] at hf; rw [hf]; exact h.congr rfl rfl
  | apply => cases he; exact h.apply
  | halt => cases he; exact h

/-- Settles O53: such a step is the operation of its phase. -/
theorem everyStepKeepsTheLevelsInAgreement : Obligations.EveryStepKeepsTheLevelsInAgreement := by
  intro s t hs hi hr hstep
  rw [step_of_noIssue hr hi] at hstep
  have hfetched : levelsAgree (fetched s) := hs.congr rfl rfl
  exact hfetched.exec_phaseInstr hstep

end Sys2Proof.Machine
end

section
/-!
PROOF of O52. The invariant holds after reset, whatever it found, and each operation keeps it from its own phase.
-/

namespace Sys2Proof.Machine

/-! ### Reset and the fetch -/

theorem resetWith_inv (p : Params) (d : Devices) (e : Env) : (State.resetWith p d e).Inv where
  noIssue := rfl
  rings := resetWith_memory_wf p d e
  sum := by simp
  idleMa _ := ⟨rfl, rfl, rfl⟩
  idleCs _ := ⟨rfl, rfl, rfl⟩
  widthBound := Nat.zero_le _
  filtered := nofun
  decoded := nofun
  cfgLegal _ := by rw [resetWith_cfg]; decide
  neverHigh := by simp [ChannelFile.all]
  frontBlueOn hinit := absurd rfl hinit
  fresh _ := rfl
  halted := nofun
  running _ := rfl
  idleTimers := ⟨rfl, rfl, rfl, by split <;> simp [ChannelFile.all]⟩

/-- Taking the `rst` sample and emptying the latch change nothing the invariant speaks of. -/
theorem State.Inv.fetched {s : State} (h : s.Inv) : (fetched s).Inv :=
  { h with
    noIssue := rfl
    fresh := fun hp => by rw [h.fresh hp]; rfl
    halted := fun hp => ⟨(h.halted hp).1, by rw [(h.halted hp).2]; rfl⟩ }

/-! ### INIT -/

theorem turn_of_ne {c : Channel} {v : LightState} {s : State} (h : s.ls.get c ≠ v) :
    turn c v s = outLevel c v.level (setLight c v s) := if_neg h

theorem faultCause_ne_none (r : CapWord) : faultCause r ≠ .none := by
  unfold faultCause
  split <;> decide

/-- A passing INIT leaves the reset values but for FrontBlue (R96). -/
theorem State.Inv.init_pass {s : State} (h : s.Inv) (hp : s.phase = .init) (hc : s.capAnswer = 0) :
    (perform (initActions s) s).Inv := by
  have hdark : s.ls.frontBlue ≠ .on := by rw [h.fresh hp]; simp [ChannelFile.all]
  obtain ⟨hleft, hright, hreverse, -⟩ := h.neverHigh
  have hturn := turn_of_ne (c := .frontBlue) (s := perform enableActions (tookCap s)) hdark
  rw [perform_initActions_pass s hc, hturn, perform_enableActions]
  exact
    { h with
      filtered := nofun
      decoded := nofun
      neverHigh := ⟨hleft, hright, hreverse, by simp [goto, outLevel, emit, setLight, ChannelFile.set]⟩
      frontBlueOn := fun _ _ => rfl
      fresh := nofun
      halted := nofun
      running := fun _ => h.running (by simp [hp]) }

/-- A failing INIT leaves the reset values but for the cause and the phase (R102). -/
theorem State.Inv.init_fail {s : State} (h : s.Inv) (hp : s.phase = .init) (hc : s.capAnswer ≠ 0) :
    (perform (initActions s) s).Inv := by
  rw [perform_initActions_fail s hc]
  exact
    { h with
      filtered := nofun
      decoded := nofun
      frontBlueOn := fun _ hhalt => absurd rfl hhalt
      fresh := nofun
      halted := fun _ => ⟨faultCause_ne_none _, by
        generalize s.capAnswer = r
        rw [h.fresh hp]
        rfl⟩
      running := fun hhalt => absurd rfl hhalt }

/-! ### The four operations of the cycle -/

/-- The phase is one of the control cycle's (R97). -/
def Phase.cycling (p : Phase) : Prop := p ≠ .init ∧ p ≠ .halt

theorem State.Inv.lit {s : State} (h : s.Inv) (hp : s.phase.cycling) : s.ls.frontBlue = .on :=
  h.frontBlueOn hp.1 hp.2

theorem State.Inv.no_fault {s : State} (h : s.Inv) (hp : s.phase.cycling) : s.fault = .none := h.running hp.2

theorem State.Inv.sample {s : State} (h : s.Inv) (hp : s.phase.cycling) : (perform sampleActions s).Inv := by
  rw [perform_sampleActions]
  exact
    { h with
      filtered := nofun
      decoded := nofun
      frontBlueOn := fun _ _ => h.lit hp
      fresh := nofun
      halted := nofun
      running := fun _ => h.no_fault hp }

theorem State.Inv.ringOk_cs {s : State} (h : s.Inv) : ringOk .cs s = true := (Bool.and_eq_true_iff.1 h.rings).1

theorem State.Inv.ringOk_ma {s : State} (h : s.Inv) : ringOk .ma s = true := (Bool.and_eq_true_iff.1 h.rings).2

theorem State.Inv.filterCs {s : State} (h : s.Inv) (hp : s.phase.cycling) (hm : s.par.filterMode = .consensus) :
    (filterCs s).Inv := by
  obtain ⟨v, hframe⟩ : ∃ v : Sample, Machine.filterCs s = { s with
      csBuf := s.csBuf.set s.csIdx s.raw, csIdx := (s.csIdx + 1) % s.par.consensusM,
      stable := v, width := v.toNat, phase := .decode } := ⟨_, (filterCs_spec s h.ringOk_cs).1⟩
  rw [hframe]
  exact
    { h with
      rings := pushRaw_keeps_memory .cs s h.rings
      idleCs := fun hma => absurd (hm.symm.trans hma) (by decide)
      widthBound := by simp only [denominator, hm]; have := v.isLt; omega
      filtered := fun _ => by simp only [hm]
      decoded := nofun
      frontBlueOn := fun _ _ => h.lit hp
      fresh := nofun
      halted := nofun
      running := fun _ => h.no_fault hp }

theorem State.Inv.filterMa {s : State} (h : s.Inv) (hp : s.phase.cycling)
    (hm : s.par.filterMode = .movingAverage) : (filterMa s).Inv := by
  obtain ⟨-, -, -, hsum⟩ := newSum_spec s h.ringOk_ma h.sum
  rw [filterMa_eq]
  exact
    { h with
      rings := pushRaw_keeps_memory .ma s h.rings
      sum := hsum
      idleMa := fun hcs => absurd (hm.symm.trans hcs) (by decide)
      widthBound := by simpa only [denominator, hm] using newSum_le h.ringOk_ma h.sum
      filtered := fun _ => by simp only [hm]
      decoded := nofun
      frontBlueOn := fun _ _ => h.lit hp
      fresh := nofun
      halted := nofun
      running := fun _ => h.no_fault hp }

theorem clamp_range (v : Int) : 0 ≤ clamp v 0 47 ∧ clamp v 0 47 < 48 := by
  unfold clamp
  split_ifs <;> omega

/-- The packing of an index 0 to 47 is no reserved word (R41). -/
theorem pack_legal {n : Nat} (h : n < 48) : ¬ (cfgBrake (pack n) = true ∧ cfgReverse (pack n) = true) := by
  have hall : ∀ n < 48, ¬ (cfgBrake (pack n) = true ∧ cfgReverse (pack n) = true) := by decide
  exact hall n h

/-- DECODE writes the index, a configuration and perhaps takes a draw; with the clamp the configuration is the packing
of the clamped index (R67 to R70). -/
theorem perform_decodeActions (s : State) : ∃ (w : CfgWord) (e : Env),
    perform (decodeActions s) s = { s with
      id := BitVec.ofInt 16 (idRaw s.par s.width), cfg := w, env := e, phase := .apply } ∧
    (s.par.clampId = true → w = pack (clamp (idRaw s.par s.width) 0 47).toNat) := by
  simp only [decodeActions, perform_cons, perform_nil, writeCfg]
  split
  · refine ⟨_, _, rfl, fun hclamp => ?_⟩
    simp [idPacked, hclamp, Config.configCount]
  · rename_i hneg
    refine ⟨_, _, rfl, fun hclamp => absurd (clamp_range (idRaw s.par s.width)).1 ?_⟩
    simpa [idPacked, hclamp, Config.configCount] using hneg

theorem State.Inv.decode {s : State} (h : s.Inv) (hp : s.phase.cycling) : (perform (decodeActions s) s).Inv := by
  obtain ⟨w, e, hframe, hpack⟩ := perform_decodeActions s
  rw [hframe]
  exact
    { h with
      filtered := nofun
      decoded := fun _ => ⟨bucketIndexFitsItsRegister s.par s.width h.widthBound, hpack⟩
      cfgLegal := fun hclamp => by
        have := clamp_range (idRaw s.par s.width)
        simp only [hpack hclamp]
        exact pack_legal (by omega)
      frontBlueOn := fun _ _ => h.lit hp
      fresh := nofun
      halted := nofun
      running := fun _ => h.no_fault hp }

/-- A chain of TURNs and evaluations keeps the timers no blinker uses at their reset value (R24, R85). -/
theorem LightRun.idleTimers {s t : State} (hrun : LightRun s t) (h : s.Inv) :
    t.bt.frontBlue = .reset ∧ t.bt.stop = .reset ∧ t.bt.reverse = .reset ∧
    (match s.par.timerMode with
      | .shared => t.bt.left = .reset ∧ t.bt.right = .reset
      | .perChannel => t.bt.frontWhite = .reset) := by
  obtain ⟨hblue, hstop, hreverse, hmode⟩ := h.idleTimers
  have hkeep := hrun.idleTimer
  cases hm : s.par.timerMode with
  | shared =>
    simp only [hm, tsel] at hkeep hmode
    exact ⟨(hkeep .frontBlue nofun nofun).trans hblue, (hkeep .stop nofun nofun).trans hstop,
      (hkeep .reverse nofun nofun).trans hreverse, (hkeep .left nofun nofun).trans hmode.1,
      (hkeep .right nofun nofun).trans hmode.2⟩
  | perChannel =>
    simp only [hm, tsel] at hkeep hmode
    exact ⟨(hkeep .frontBlue nofun nofun).trans hblue, (hkeep .stop nofun nofun).trans hstop,
      (hkeep .reverse nofun nofun).trans hreverse, (hkeep .frontWhite nofun nofun).trans hmode⟩

theorem State.Inv.apply {s : State} (h : s.Inv) (hp : s.phase.cycling) : (perform (applyActions s) s).Inv := by
  rw [applyActions, perform_append]
  have hrun := slotActions_lightRun s.cfg s
  generalize perform (slotActions s.cfg s.par.timerMode) s = t at hrun
  obtain ⟨hleft, hright, hreverse, hblue⟩ := h.neverHigh
  have hlit : t.ls.frontBlue = .on := hrun.frontBlue.trans (h.lit hp)
  have hhigh : t.ls.left ≠ .high ∧ t.ls.right ≠ .high ∧ t.ls.reverse ≠ .high ∧ t.ls.frontBlue ≠ .high :=
    ⟨hrun.ne_high .left (by simp) hleft, hrun.ne_high .right (by simp) hright,
      hrun.ne_high .reverse (by simp) hreverse, by simp [hlit]⟩
  have hidle := hrun.idleTimers h
  rw [hrun.frame]
  exact
    { h with
      filtered := nofun
      decoded := nofun
      neverHigh := hhigh
      frontBlueOn := fun _ _ => hlit
      fresh := nofun
      halted := nofun
      running := fun _ => h.no_fault hp
      idleTimers := hidle }

/-! ### The step -/

/-- The operation of the phase completes and keeps the invariant. -/
theorem State.Inv.exec_phaseInstr {s : State} (h : s.Inv) :
    ∃ t : State, exec (phaseInstr s.par.filterMode s.phase) s = .next t ∧ t.Inv := by
  cases hp : s.phase with
  | init =>
    by_cases hc : s.capAnswer = 0
    · exact ⟨_, rfl, h.init_pass hp hc⟩
    · exact ⟨_, rfl, h.init_fail hp hc⟩
  | sample => exact ⟨_, rfl, h.sample (by simp [Phase.cycling, hp])⟩
  | filter =>
    have hcyc : s.phase.cycling := by simp [Phase.cycling, hp]
    cases hm : s.par.filterMode with
    | consensus => exact ⟨_, exec_filterCs_eq_next.2 ⟨h.ringOk_cs, rfl⟩, h.filterCs hcyc hm⟩
    | movingAverage => exact ⟨_, exec_filterMa_eq_next.2 ⟨h.ringOk_ma, rfl⟩, h.filterMa hcyc hm⟩
  | decode => exact ⟨_, rfl, h.decode (by simp [Phase.cycling, hp])⟩
  | apply => exact ⟨_, rfl, h.apply (by simp [Phase.cycling, hp])⟩
  | halt => exact ⟨_, rfl, h⟩

/-- Settles O52: a step is a reset, or the operation of its phase. -/
theorem everyStepKeepsTheInvariant : Obligations.EveryStepKeepsTheInvariant := by
  intro s h
  cases hr : s.rstAnswer with
  | some n => exact ⟨_, step_of_rst hr, resetWith_inv _ _ _⟩
  | none =>
    rw [step_of_noIssue hr h.noIssue]
    exact h.fetched.exec_phaseInstr

end Sys2Proof.Machine
end

section
/-!
PROOF of O57 and O58. `ID`, `FAULT` and the event trace are write-only: two runs from states that differ in them alone
are, action by action, two relabellings of one common run.
-/

namespace Sys2Proof.Machine

/-- The state with another `ID` and another `FAULT`, and with older events before its trace. -/
def relabel (x : BucketId) (g : FaultCode) (old : List Event) (b : State) : State :=
  { b with id := x, fault := g, ev := old ++ b.ev }

/-- The action commutes with every relabelling, so it reads none of the three and writes neither `ID` nor `FAULT`. -/
def Action.Blind (a : Action) : Prop :=
  ∀ (x : BucketId) (g : FaultCode) (old : List Event) (b : State), a (relabel x g old b) = relabel x g old (a b)

/-- `t` and `t'`, reached from `s` and `s'`, relabel one common state; each of `ID` and `FAULT` is the same in both or
still the one found in `s` and `s'`. -/
def Twin (s s' t t' : State) : Prop :=
  ∃ (b : State) (x x' : BucketId) (g g' : FaultCode),
    t = relabel x g s.ev b ∧ t' = relabel x' g' s'.ev b ∧
    (x = x' ∨ x = s.id ∧ x' = s'.id) ∧ (g = g' ∨ g = s.fault ∧ g' = s'.fault)

/-- The action takes twins to twins. -/
def Action.KeepsTwins (a : Action) : Prop := ∀ s s' t t' : State, Twin s s' t t' → Twin s s' (a t) (a t')

theorem Action.Blind.keepsTwins {a : Action} (h : a.Blind) : a.KeepsTwins := by
  rintro s s' _ _ ⟨b, x, x', g, g', rfl, rfl, hid, hfault⟩
  exact ⟨a b, x, x', g, g', h x g _ b, h x' g' _ b, hid, hfault⟩

/-! ### The actions -/

theorem blind_emit (e : Event) : Action.Blind (emit e) := by
  intro x g old b
  simp [emit, relabel]

theorem blind_outLevel (c : Channel) (l : Level) : Action.Blind (outLevel c l) := fun x g old b =>
  blind_emit (.outLevel c l) x g old { b with dev := { b.dev with level := b.dev.level.set c l } }

theorem blind_outEnable (c : Channel) (e : Bool) : Action.Blind (outEnable c e) := fun x g old b =>
  blind_emit (.outEnable c e) x g old { b with dev := { b.dev with enabled := b.dev.enabled.set c e } }

theorem blind_icReset : Action.Blind icReset := fun x g old b =>
  blind_emit .icReset x g old { b with dev := { b.dev with icCount := 0 } }

theorem blind_icEnable (e : Bool) : Action.Blind (icEnable e) := fun x g old b =>
  blind_emit (.icEnable e) x g old { b with dev := { b.dev with icEnabled := e } }

theorem blind_goto (p : Phase) : Action.Blind (goto p) := fun _ _ _ _ => rfl

theorem blind_tookCap : Action.Blind tookCap := fun _ _ _ _ => rfl

theorem blind_readRaw : Action.Blind readRaw := fun _ _ _ _ => rfl

theorem blind_waitPeriod : Action.Blind waitPeriod := by
  intro x g old b
  unfold waitPeriod
  rw [apply_ite (relabel x g old)]
  rfl

theorem blind_turn (c : Channel) (v : LightState) : Action.Blind (turn c v) := by
  intro x g old b
  by_cases h : b.ls.get c = v
  · rw [turn_of_eq h, turn_of_eq (s := relabel x g old b) h]
  · rw [turn_of_ne h, turn_of_ne (s := relabel x g old b) h]
    exact blind_outLevel c v.level x g old (setLight c v b)

theorem blind_blinkEval (t : Channel) : Action.Blind (blinkEval t) := fun _ _ _ _ => rfl

theorem blind_driveBy (c t : Channel) : Action.Blind (driveBy c t) := by
  intro x g old b
  rw [driveBy_eq_turn, driveBy_eq_turn]
  exact blind_turn c _ x g old b

theorem blind_adopt : Action.Blind adopt := by
  intro x g old b
  unfold adopt
  rw [apply_ite (relabel x g old)]
  rfl

theorem blind_filterCs : Action.Blind filterCs := by
  intro x g old b
  have hadopt := blind_adopt x g old (pushRaw .cs b)
  have hpush : pushRaw .cs (relabel x g old b) = relabel x g old (pushRaw .cs b) := rfl
  unfold filterCs
  rw [hpush, hadopt]
  rfl

theorem blind_filterMa : Action.Blind filterMa := fun _ _ _ _ => rfl

theorem blind_writeCfg (idx : Int) : Action.Blind (writeCfg idx) := by
  intro x g old b
  unfold writeCfg
  rw [apply_ite (relabel x g old)]
  rfl

/-- DECODE's write of `ID` does not depend on what the register held. -/
theorem keepsTwins_writeId (idx : Int) : Action.KeepsTwins (writeId idx) := by
  rintro s s' _ _ ⟨b, x, x', g, g', rfl, rfl, -, hfault⟩
  exact ⟨b, _, _, g, g', rfl, rfl, .inl rfl, hfault⟩

/-- The exception's write of `FAULT` does not depend on what the register held. -/
theorem keepsTwins_raiseFatal (r : CapWord) : Action.KeepsTwins (raiseFatal r) := by
  rintro s s' _ _ ⟨b, x, x', g, g', rfl, rfl, hid, -⟩
  exact ⟨goto .halt b, x, x', _, _, rfl, rfl, hid, .inl rfl⟩

/-! ### The operations -/

theorem blind_applyFrontWhite (w : CfgWord) : Action.Blind (applyFrontWhite w) := by
  rw [funext (applyFrontWhite_eq w)]
  exact blind_turn _ _

theorem blind_applyStop (w : CfgWord) : Action.Blind (applyStop w) := by
  rw [funext (applyStop_eq w)]
  exact blind_turn _ _

theorem blind_applyReverse (w : CfgWord) : Action.Blind (applyReverse w) := by
  rw [funext (applyReverse_eq w)]
  exact blind_turn _ _

theorem blind_blinkActions (mode : TimerMode) (c : Channel) : ∀ a ∈ blinkActions mode c, a.Blind := by
  simp [blinkActions, blind_blinkEval, blind_driveBy]

theorem blind_blinkNoneActions : ∀ a ∈ blinkNoneActions, a.Blind := by
  simp [blinkNoneActions, blind_turn]

theorem blind_blinkLeftActions (mode : TimerMode) : ∀ a ∈ blinkLeftActions mode, a.Blind :=
  List.forall_mem_append.2 ⟨blind_blinkActions mode .left, List.forall_mem_singleton.2 (blind_turn _ _)⟩

theorem blind_blinkRightActions (mode : TimerMode) : ∀ a ∈ blinkRightActions mode, a.Blind :=
  List.forall_mem_append.2 ⟨blind_blinkActions mode .right, List.forall_mem_singleton.2 (blind_turn _ _)⟩

theorem blind_blinkHazardActions (mode : TimerMode) : ∀ a ∈ blinkHazardActions mode, a.Blind := by
  cases mode with
  | shared => simp [blinkHazardActions, blind_blinkEval, blind_driveBy]
  | perChannel =>
    exact List.forall_mem_append.2 ⟨blind_blinkActions .perChannel .left, blind_blinkActions .perChannel .right⟩

theorem blind_blinkersActions (w : CfgWord) (mode : TimerMode) : ∀ a ∈ blinkersActions w mode, a.Blind := by
  unfold blinkersActions
  split_ifs
  · exact blind_blinkNoneActions
  · exact blind_blinkLeftActions mode
  · exact blind_blinkRightActions mode
  · exact blind_blinkHazardActions mode

theorem blind_applyActions (s : State) : ∀ a ∈ applyActions s, a.Blind := by
  simpa [applyActions, slotActions, or_imp, forall_and, blind_goto, blind_applyFrontWhite, blind_applyStop,
    blind_applyReverse] using blind_blinkersActions s.cfg s.par.timerMode

theorem keepsTwins_initActions (s : State) : ∀ a ∈ initActions s, a.KeepsTwins := by
  unfold initActions
  split
  · have hblind : ∀ a ∈ tookCap :: (enableActions ++ [turn .frontBlue .on, goto .sample]), Action.Blind a := by
      simp [enableActions, blind_tookCap, blind_outEnable, blind_turn, blind_goto]
    exact fun a ha => (hblind a ha).keepsTwins
  · simp [blind_tookCap.keepsTwins, keepsTwins_raiseFatal]

/-- Every action of every operation takes twins to twins. -/
theorem keepsTwins_actions (i : Instr) (s : State) : ∀ a ∈ actions i s, a.KeepsTwins := by
  have hblind {as : List Action} (h : ∀ a ∈ as, a.Blind) : ∀ a ∈ as, a.KeepsTwins := fun a ha => (h a ha).keepsTwins
  cases i with
  | init => exact keepsTwins_initActions s
  | decode =>
    simp [actions, decodeActions, keepsTwins_writeId, (blind_writeCfg _).keepsTwins, (blind_goto _).keepsTwins]
  | sample =>
    exact hblind (by
      simp [actions, sampleActions, blind_icReset, blind_icEnable, blind_waitPeriod, blind_readRaw, blind_goto])
  | filterCs => exact hblind (List.forall_mem_singleton.2 blind_filterCs)
  | filterMa => exact hblind (List.forall_mem_singleton.2 blind_filterMa)
  | apply => exact hblind (blind_applyActions s)
  | halt => exact hblind (List.forall_mem_nil _)
  | fwHigh | fwOn | fwOff | stopHigh | stopOn | stopOff | revOn | revOff =>
    exact hblind (List.forall_mem_singleton.2 (blind_turn _ _))
  | blinkNone => exact hblind blind_blinkNoneActions
  | blinkLeft => exact hblind (blind_blinkLeftActions _)
  | blinkRight => exact hblind (blind_blinkRightActions _)
  | blinkHazard => exact hblind (blind_blinkHazardActions _)
  | outLevelOff | outLevelOn | outLevelHigh => exact hblind (List.forall_mem_singleton.2 (blind_outLevel _ _))
  | outEnable => exact hblind (List.forall_mem_singleton.2 (blind_outEnable _ _))
  | icReset => exact hblind (List.forall_mem_singleton.2 blind_icReset)
  | icEnable => exact hblind (List.forall_mem_singleton.2 (blind_icEnable _))

theorem Twin.perform {s s' : State} {as : List Action} (ha : ∀ a ∈ as, a.KeepsTwins) {t t' : State}
    (h : Twin s s' t t') : Twin s s' (perform as t) (perform as t') := by
  induction as generalizing t t' with
  | nil => exact h
  | cons a as ih =>
    obtain ⟨hhead, htail⟩ := List.forall_mem_cons.1 ha
    exact ih htail (hhead s s' t t' h)

/-- The ring an operation works on is in form, where it works on one (R29). -/
def ringReady (i : Instr) (s : State) : Bool :=
  match i with
  | .filterCs => ringOk .cs s
  | .filterMa => ringOk .ma s
  | _ => true

/-- An operation is its actions, unless its ring is out of form. -/
theorem exec_eq (i : Instr) (s : State) :
    exec i s = if ringReady i s = true then .next (perform (actions i s) s) else .fault .outsideRing := by
  cases i <;> rfl

/-- What an operation does to its state is chosen by nothing that a relabelling changes. -/
theorem actions_relabel (i : Instr) (x : BucketId) (g : FaultCode) (old : List Event) (b : State) :
    actions i (relabel x g old b) = actions i b ∧ ringReady i (relabel x g old b) = ringReady i b := by
  cases i <;> exact ⟨rfl, rfl⟩

theorem Twin.exec {s s' t t' : State} (h : Twin s s' t t') (i : Instr) :
    outcomesAgree (Twin s s') (exec i t) (exec i t') := by
  have hsame : actions i t' = actions i t ∧ ringReady i t' = ringReady i t := by
    obtain ⟨b, x, x', g, g', rfl, rfl, -, -⟩ := h
    simp only [actions_relabel, and_self]
  rw [exec_eq i t, exec_eq i t', hsame.1, hsame.2]
  split
  · exact h.perform (keepsTwins_actions i t)
  · rfl

/-! ### The statements -/

/-- States that differ in `ID`, `FAULT` and the trace alone are twins of each other. -/
theorem twin_refl (s : State) (x : BucketId) (g : FaultCode) (e : List Event) :
    Twin s { s with id := x, fault := g, ev := e } s { s with id := x, fault := g, ev := e } :=
  ⟨{ s with ev := [] }, s.id, x, s.fault, g, by simp [relabel], by simp [relabel], .inr ⟨rfl, rfl⟩, .inr ⟨rfl, rfl⟩⟩

theorem outcomesAgree.mono {r q : State → State → Prop} (hrq : ∀ t t', r t t' → q t t')
    {a b : Host.Outcome State Fault Refusal} (h : outcomesAgree r a b) : outcomesAgree q a b := by
  cases a with
  | next t =>
    cases b with
    | next t' => exact hrq t t' h
    | fault | refused => exact h
  | fault | refused => cases b <;> exact h

/-- Settles O57: twins with the same trace. -/
theorem idAndFaultAreNeverRead : Obligations.IdAndFaultAreNeverRead := by
  intro i s v f
  refine ((twin_refl s v f s.ev).exec i).mono ?_
  rintro _ _ ⟨b, x, x', g, g', rfl, rfl, hid, hfault⟩
  exact ⟨rfl, hid, hfault⟩

/-- Settles O58: twins with the same `ID` and `FAULT`; the common run's trace is what both have appended. -/
theorem traceIsAppendOnlyAndUnread : Obligations.TraceIsAppendOnlyAndUnread := by
  intro i s e
  refine ((twin_refl s s.id s.fault e).exec i).mono ?_
  rintro _ _ ⟨b, x, x', g, g', rfl, rfl, hid, hfault⟩
  obtain rfl : x = x' := hid.elim id fun h => h.1.trans h.2.symm
  obtain rfl : g = g' := hfault.elim id fun h => h.1.trans h.2.symm
  exact ⟨rfl, b.ev, rfl, rfl⟩

end Sys2Proof.Machine
end

section
/-!
PROOF of O9. Every operation is a list of actions from one inventory, and each action of the inventory has to do with the
environment at most once (R34, R35).
-/

namespace Sys2Proof.Machine

/-! ### The inventory of actions -/

/-- The actions operations are made of (R54 to R57, R60, R63, R69, R86 to R88, R95, R101, R102, R111). -/
inductive Primitive : Action → Prop
  | goto (p : Phase) : Primitive (goto p)
  | tookCap : Primitive tookCap
  | raiseFatal (r : CapWord) : Primitive (raiseFatal r)
  | outEnable (c : Channel) (b : Bool) : Primitive (outEnable c b)
  | outLevel (c : Channel) (l : Level) : Primitive (outLevel c l)
  | icReset : Primitive icReset
  | icEnable (b : Bool) : Primitive (icEnable b)
  | waitPeriod : Primitive waitPeriod
  | readRaw : Primitive readRaw
  | filterCs : Primitive filterCs
  | filterMa : Primitive filterMa
  | writeId (idx : Int) : Primitive (writeId idx)
  | writeCfg (idx : Int) : Primitive (writeCfg idx)
  | turn (c : Channel) (v : LightState) : Primitive (turn c v)
  | blinkEval (t : Channel) : Primitive (blinkEval t)
  | driveBy (c t : Channel) : Primitive (driveBy c t)

theorem primitive_initActions (s : State) : ∀ a ∈ initActions s, Primitive a := by
  unfold initActions
  split
  · simp [enableActions, Primitive.tookCap, Primitive.outEnable, Primitive.turn, Primitive.goto]
  · simp [Primitive.tookCap, Primitive.raiseFatal]

theorem primitive_blinkActions (mode : TimerMode) (c : Channel) : ∀ a ∈ blinkActions mode c, Primitive a := by
  simp [blinkActions, Primitive.blinkEval, Primitive.driveBy]

theorem primitive_blinkNoneActions : ∀ a ∈ blinkNoneActions, Primitive a := by
  simp [blinkNoneActions, Primitive.turn]

theorem primitive_blinkLeftActions (mode : TimerMode) : ∀ a ∈ blinkLeftActions mode, Primitive a :=
  List.forall_mem_append.2 ⟨primitive_blinkActions mode .left, List.forall_mem_singleton.2 (.turn _ _)⟩

theorem primitive_blinkRightActions (mode : TimerMode) : ∀ a ∈ blinkRightActions mode, Primitive a :=
  List.forall_mem_append.2 ⟨primitive_blinkActions mode .right, List.forall_mem_singleton.2 (.turn _ _)⟩

theorem primitive_blinkHazardActions (mode : TimerMode) : ∀ a ∈ blinkHazardActions mode, Primitive a := by
  cases mode with
  | shared => simp [blinkHazardActions, Primitive.blinkEval, Primitive.driveBy]
  | perChannel =>
    exact List.forall_mem_append.2
      ⟨primitive_blinkActions .perChannel .left, primitive_blinkActions .perChannel .right⟩

theorem primitive_blinkersActions (w : CfgWord) (mode : TimerMode) : ∀ a ∈ blinkersActions w mode, Primitive a := by
  unfold blinkersActions
  split_ifs
  · exact primitive_blinkNoneActions
  · exact primitive_blinkLeftActions mode
  · exact primitive_blinkRightActions mode
  · exact primitive_blinkHazardActions mode

theorem primitive_applyActions (s : State) : ∀ a ∈ applyActions s, Primitive a := by
  have hslots : ∀ a ∈ [applyFrontWhite s.cfg, applyStop s.cfg, applyReverse s.cfg], Primitive a := by
    rw [funext (applyFrontWhite_eq s.cfg), funext (applyStop_eq s.cfg), funext (applyReverse_eq s.cfg)]
    simp [Primitive.turn]
  exact List.forall_mem_append.2
    ⟨List.forall_mem_append.2 ⟨hslots, primitive_blinkersActions _ _⟩, List.forall_mem_singleton.2 (.goto _)⟩

/-- Every action of every operation stands in the inventory. -/
theorem primitive_actions (i : Instr) (s : State) : ∀ a ∈ actions i s, Primitive a := by
  cases i with
  | init => exact primitive_initActions s
  | sample =>
    simp [actions, sampleActions, Primitive.icReset, Primitive.icEnable, Primitive.waitPeriod, Primitive.readRaw,
      Primitive.goto]
  | filterCs => exact List.forall_mem_singleton.2 .filterCs
  | filterMa => exact List.forall_mem_singleton.2 .filterMa
  | decode => simp [actions, decodeActions, Primitive.writeId, Primitive.writeCfg, Primitive.goto]
  | apply => exact primitive_applyActions s
  | halt => exact List.forall_mem_nil _
  | fwHigh | fwOn | fwOff | stopHigh | stopOn | stopOff | revOn | revOff =>
    exact List.forall_mem_singleton.2 (.turn _ _)
  | blinkNone => exact primitive_blinkNoneActions
  | blinkLeft => exact primitive_blinkLeftActions _
  | blinkRight => exact primitive_blinkRightActions _
  | blinkHazard => exact primitive_blinkHazardActions _
  | outLevelOff | outLevelOn | outLevelHigh => exact List.forall_mem_singleton.2 (.outLevel _ _)
  | outEnable => exact List.forall_mem_singleton.2 (.outEnable _ _)
  | icReset => exact List.forall_mem_singleton.2 .icReset
  | icEnable => exact List.forall_mem_singleton.2 (.icEnable _)

/-! ### Each action's accesses -/

/-- From `s` to `t` the environment has been commanded or read at most once. -/
def AtMostOneAccess (s t : State) : Prop := accesses s ≤ accesses t ∧ accesses t ≤ accesses s + 1

theorem atMostOneAccess_of_eq {s t : State} (h : accesses t = accesses s) : AtMostOneAccess s t := by
  unfold AtMostOneAccess; omega

theorem atMostOneAccess_of_succ {s t : State} (h : accesses t = accesses s + 1) : AtMostOneAccess s t := by
  unfold AtMostOneAccess; omega

theorem accesses_congr {s t : State} (hev : t.ev = s.ev) (henv : t.env = s.env) : accesses t = accesses s := by
  rw [accesses, accesses, hev, henv]

theorem accesses_of_emit {s t : State} {e : Event} (hev : t.ev = s.ev ++ [e]) (henv : t.env = s.env) :
    accesses t = accesses s + 1 := by
  simp only [accesses, hev, henv, List.length_append, List.length_singleton]
  omega

theorem accesses_tookCap (s : State) : accesses (tookCap s) = accesses s + 1 := by
  simp only [accesses, tookCap, Stream.advance]; omega

theorem accesses_blinkEval (t : Channel) (s : State) : accesses (blinkEval t s) = accesses s + 1 := by
  simp only [accesses, blinkEval_ev, blinkEval_env, Stream.advance]; omega

/-- WaitPeriod takes one answer if the capture is enabled. -/
theorem accesses_waitPeriod (s : State) :
    accesses (waitPeriod s) = if s.dev.icEnabled = true then accesses s + 1 else accesses s := by
  unfold waitPeriod
  split
  · simp only [accesses, tookSample, Stream.advance]; omega
  · rfl

/-- Only a negative index takes a draw (R70). -/
theorem accesses_writeCfg (idx : Int) (s : State) :
    accesses (writeCfg idx s) = if 0 ≤ idx then accesses s else accesses s + 1 := by
  unfold writeCfg
  split
  · rfl
  · simp only [accesses, tookDraw, Stream.advance]; omega

/-- A TURN drives one level, if it changes the light (R86). -/
theorem atMostOneAccess_turn (c : Channel) (v : LightState) (s : State) : AtMostOneAccess s (turn c v s) := by
  by_cases h : s.ls.get c = v
  · rw [turn_of_eq h]; exact atMostOneAccess_of_eq rfl
  · rw [turn_of_ne h]; exact atMostOneAccess_of_succ (accesses_of_emit rfl rfl)

theorem adopt_ev_dev_env (s : State) : (adopt s).ev = s.ev ∧ (adopt s).dev = s.dev ∧ (adopt s).env = s.env := by
  unfold adopt
  split <;> exact ⟨rfl, rfl, rfl⟩

/-- FILTER.CS has nothing to do with the environment, whatever its ring is. -/
theorem filterCs_ev_dev_env (s : State) :
    (filterCs s).ev = s.ev ∧ (filterCs s).dev = s.dev ∧ (filterCs s).env = s.env := adopt_ev_dev_env (pushRaw .cs s)

/-- An action of the inventory drives or reads the environment at most once. -/
theorem Primitive.atMostOneAccess {a : Action} (h : Primitive a) (s : State) : AtMostOneAccess s (a s) := by
  cases h with
  | goto | raiseFatal | readRaw | filterMa | writeId => exact atMostOneAccess_of_eq (accesses_congr rfl rfl)
  | filterCs =>
    obtain ⟨hev, -, henv⟩ := filterCs_ev_dev_env s
    exact atMostOneAccess_of_eq (accesses_congr hev henv)
  | outEnable | outLevel | icReset | icEnable => exact atMostOneAccess_of_succ (accesses_of_emit rfl rfl)
  | tookCap => exact atMostOneAccess_of_succ (accesses_tookCap s)
  | blinkEval t => exact atMostOneAccess_of_succ (accesses_blinkEval t s)
  | waitPeriod => rw [AtMostOneAccess, accesses_waitPeriod]; split <;> omega
  | writeCfg => rw [AtMostOneAccess, accesses_writeCfg]; split <;> omega
  | turn => exact atMostOneAccess_turn _ _ s
  | driveBy c t => rw [driveBy_eq_turn]; exact atMostOneAccess_turn _ _ s

/-- One action more is that action on the state the others left, or nothing at the end of the list. -/
theorem perform_take_succ (as : List Action) (n : Nat) (s : State) :
    perform (as.take (n + 1)) s = perform as[n]?.toList (perform (as.take n) s) := by
  rw [List.take_add_one, perform_append]

/-- Settles O9: an operation that completes is its actions, all of which stand in the inventory. -/
theorem actionsMakeUpTheOperation : Obligations.ActionsMakeUpTheOperation := by
  refine ⟨fun i s t h => ?_, fun i s n => ?_⟩
  · rw [exec_eq] at h
    split at h
    · exact Host.Outcome.next.inj h
    · cases h
  · rw [perform_take_succ]
    cases ha : (actions i s)[n]? with
    | none => exact atMostOneAccess_of_eq rfl
    | some a => exact (primitive_actions i s a (List.mem_of_getElem? ha)).atMostOneAccess _

end Sys2Proof.Machine
end

section
/-!
PROOF of O24. Each FILTER changes its ring by one storage operation, which keeps the form (R29); nothing else can fault.
-/

namespace Sys2Proof.Machine

theorem memory_wf_iff (s : State) : Memory.wf s = true ↔ ringOk .cs s = true ∧ ringOk .ma s = true :=
  Bool.and_eq_true_iff

/-- Where the storage is in form, every operation completes (R103). -/
theorem exec_of_memory_wf {s : State} (h : Memory.wf s = true) (i : Instr) :
    exec i s = .next (perform (actions i s) s) := by
  obtain ⟨hcs, hma⟩ := (memory_wf_iff s).1 h
  have hready : ringReady i s = true := by
    cases i with
    | filterCs => exact hcs
    | filterMa => exact hma
    | _ => rfl
  rw [exec_eq, if_pos hready]

theorem filterCs_keeps_memory {s : State} (h : Memory.wf s = true) : Memory.wf (filterCs s) = true := by
  obtain ⟨hframe, -, -⟩ := filterCs_spec s ((memory_wf_iff s).1 h).1
  rw [hframe]
  exact pushRaw_keeps_memory .cs s h

theorem filterMa_keeps_memory {s : State} (h : Memory.wf s = true) : Memory.wf (filterMa s) = true := by
  rw [filterMa_eq]
  exact pushRaw_keeps_memory .ma s h

/-- FILTER.CS moves its own index, inside its space, and not the other (R19). -/
theorem filterCs_indices {s : State} (h : ringOk .cs s = true) :
    (filterCs s).csIdx < s.par.consensusM ∧ (filterCs s).maIdx = s.maIdx := by
  obtain ⟨hframe, -, -⟩ := filterCs_spec s h
  rw [hframe]
  exact ⟨Nat.mod_lt _ (params_bounds s.par).2.1, rfl⟩

/-- FILTER.MA moves its own index, inside its space, and not the other (R21). -/
theorem filterMa_indices (s : State) : (filterMa s).maIdx < s.par.maN ∧ (filterMa s).csIdx = s.csIdx := by
  obtain ⟨-, -, hpos, -⟩ := params_bounds s.par
  rw [filterMa_eq]
  exact ⟨Nat.mod_lt _ hpos, rfl⟩

/-- Settles O24: both FILTERs complete, and so does every other operation. -/
theorem filtersStayInsideTheirRings : Obligations.FiltersStayInsideTheirRings := by
  intro s h
  refine ⟨⟨filterCs s, exec_of_memory_wf h .filterCs, filterCs_keeps_memory h, ?_⟩,
    ⟨filterMa s, exec_of_memory_wf h .filterMa, filterMa_keeps_memory h, filterMa_indices s⟩, fun i r => ?_⟩
  · exact filterCs_indices ((memory_wf_iff s).1 h).1
  · rw [exec_of_memory_wf h i]
    nofun

end Sys2Proof.Machine
end

section
/-!
PROOF of O59. SAMPLE, FILTER and DECODE commute with a replacement of the light states and the blink timers (R38).
-/

namespace Sys2Proof.Machine

/-- The state with other light states and blink timers. -/
def withLights (a : ChannelFile LightState) (b : ChannelFile BlinkTimer) (s : State) : State :=
  { s with ls := a, bt := b }

theorem adopt_withLights (a : ChannelFile LightState) (b : ChannelFile BlinkTimer) (s : State) :
    adopt (withLights a b s) = withLights a b (adopt s) := by
  unfold adopt
  rw [apply_ite (withLights a b)]
  rfl

theorem filterCs_withLights (a : ChannelFile LightState) (b : ChannelFile BlinkTimer) (s : State) :
    filterCs (withLights a b s) = withLights a b (filterCs s) := by
  have hadopt : adopt (pushRaw .cs (withLights a b s)) = withLights a b (adopt (pushRaw .cs s)) :=
    adopt_withLights a b (pushRaw .cs s)
  rw [filterCs, hadopt]
  rfl

theorem writeCfg_withLights (a : ChannelFile LightState) (b : ChannelFile BlinkTimer) (idx : Int) (s : State) :
    writeCfg idx (withLights a b s) = withLights a b (writeCfg idx s) := by
  unfold writeCfg
  rw [apply_ite (withLights a b)]
  rfl

/-- The operations upstream of the rule engine (R38). -/
def Upstream (i : Instr) : Prop := i = .sample ∨ i = .filterCs ∨ i = .filterMa ∨ i = .decode

/-- The actions of an upstream operation commute with the replacement. -/
theorem perform_actions_withLights {i : Instr} (hi : Upstream i) (a : ChannelFile LightState)
    (b : ChannelFile BlinkTimer) (s : State) :
    perform (actions i (withLights a b s)) (withLights a b s) = withLights a b (perform (actions i s) s) := by
  rcases hi with rfl | rfl | rfl | rfl
  · simp only [actions, perform_sampleActions]
    rfl
  · exact filterCs_withLights a b s
  · rfl
  · simp only [actions, decodeActions, perform_cons, perform_nil]
    have hcfg := writeCfg_withLights a b (idPacked s.par (idRaw s.par s.width)) (writeId (idRaw s.par s.width) s)
    exact congrArg (goto .apply) hcfg

theorem ringReady_withLights (i : Instr) (a : ChannelFile LightState) (b : ChannelFile BlinkTimer) (s : State) :
    ringReady i (withLights a b s) = ringReady i s := by
  cases i <;> rfl

/-- Settles O59: with the state's own lights and timers the replacement changes nothing, so the operation keeps them; with
any others its result differs in them alone. -/
theorem dataFlowsOneWay : Obligations.DataFlowsOneWay := by
  intro i s a b hi
  have hother := perform_actions_withLights hi a b s
  have hown : perform (actions i s) s = withLights s.ls s.bt (perform (actions i s) s) :=
    perform_actions_withLights hi s.ls s.bt s
  change outcomesAgree _ (exec i s) (exec i (withLights a b s))
  rw [exec_eq i s, exec_eq i (withLights a b s), ringReady_withLights, hother]
  split
  · exact ⟨hown, rfl, rfl⟩
  · rfl

end Sys2Proof.Machine
end

section
/-!
PROOF of O8. What the first actions of each operation of the sequencer leave in the peripherals (R35, R116).
-/

namespace Sys2Proof.Machine

/-- A reset with an empty latch cuts the operation of the phase. -/
theorem resetInside_of_noIssue {s : State} (hi : s.issue = none) (n : Nat) :
    resetInside n s =
      applyReset (perform ((actions (phaseInstr s.par.filterMode s.phase) (fetched s)).take n) (fetched s)) := by
  rw [resetInside, pendingActions, fetch_of_noIssue hi, decode_phase_code]

/-- What every action keeps, any first part of them keeps. -/
theorem perform_take_keeps {α : Type} (f : State → α) {as : List Action} (ha : ∀ a ∈ as, ∀ s, f (a s) = f s)
    (n : Nat) (s : State) : f (perform (as.take n) s) = f s :=
  perform_keeps (r := fun s t => f t = f s) (fun _ => rfl) (fun _ _ _ hst htu => htu.trans hst)
    (fun a h => ha a (List.mem_of_mem_take h)) s

/-! ### INIT -/

/-- The channels INIT enables, in its order (R96). -/
def enableOrder : List Channel := [.frontWhite, .frontBlue, .left, .right, .stop, .reverse]

theorem enableActions_eq_map : enableActions = enableOrder.map (outEnable · true) := rfl

/-- The order is that of the ids (R44). -/
theorem mem_take_enableOrder (c : Channel) (n : Nat) : c ∈ enableOrder.take n ↔ c.id.toNat < n := by
  have hmem : c ∈ enableOrder := by cases c <;> decide
  have hidx : enableOrder.idxOf c = c.id.toNat := by cases c <;> rfl
  rw [List.mem_take_iff_idxOf_lt hmem, hidx]

theorem perform_enables_enabled (cs : List Channel) (s : State) (c : Channel) :
    (perform (cs.map (outEnable · true)) s).dev.enabled.get c = if c ∈ cs then true else s.dev.enabled.get c := by
  induction cs generalizing s with
  | nil => rfl
  | cons d cs ih =>
    rw [List.map_cons, perform_cons, ih, outEnable_dev, ChannelFile.get_set]
    by_cases hc : c = d <;> simp [hc]

theorem perform_enables_dev (cs : List Channel) (s : State) :
    (perform (cs.map (outEnable · true)) s).dev =
      { s.dev with enabled := (perform (cs.map (outEnable · true)) s).dev.enabled } := by
  induction cs generalizing s with
  | nil => rfl
  | cons d cs ih => rw [List.map_cons, perform_cons, ih]; rfl

theorem perform_enables_ls (cs : List Channel) (s : State) : (perform (cs.map (outEnable · true)) s).ls = s.ls := by
  induction cs generalizing s with
  | nil => rfl
  | cons d cs ih => rw [List.map_cons, perform_cons, ih]; rfl

/-- The first `n` actions of a passing INIT, by kind: the check, the enables, the TURN and the phase. -/
theorem take_initActions_pass {s : State} (hc : s.capAnswer = 0) (n : Nat) :
    (initActions s).take (n + 1) =
      tookCap :: ((enableOrder.take n).map (outEnable · true)
        ++ [turn .frontBlue .on, goto .sample].take (n - 6)) := by
  rw [initActions, if_pos hc, List.take_succ_cons, List.take_append, enableActions_eq_map, List.map_take]
  rfl

/-- The end of a passing INIT lights FrontBlue with its first action. -/
theorem perform_take_initEnd_dev (k : Nat) (s : State) :
    (perform ([turn .frontBlue .on, goto .sample].take k) s).dev =
      if 1 ≤ k then (turn .frontBlue .on s).dev else s.dev := by
  match k with
  | 0 => rfl
  | 1 => rfl
  | k + 2 => simp

theorem turn_dev_frame (c : Channel) (v : LightState) (s : State) :
    (turn c v s).dev = { s.dev with level := (turn c v s).dev.level } := congrArg State.dev (turn_onlyLights c v s)

/-- The peripherals inside a passing INIT: the channels enabled so far, and FrontBlue's level after the TURN. -/
theorem perform_take_initActions_pass {s : State} (hc : s.capAnswer = 0) (n : Nat) {t : State}
    (ht : t = perform ((initActions s).take n) s) :
    (∀ c : Channel, t.dev.enabled.get c = if c.id.toNat + 2 ≤ n then true else s.dev.enabled.get c) ∧
    (∀ c : Channel, t.dev.level.get c =
      if c = .frontBlue ∧ 8 ≤ n ∧ s.ls.frontBlue ≠ .on then 20 else s.dev.level.get c) ∧
    t.dev = { s.dev with enabled := t.dev.enabled, level := t.dev.level } := by
  cases n with
  | zero => subst ht; simp
  | succ n =>
    rw [take_initActions_pass hc, perform_cons, perform_append] at ht
    have henabled (c : Channel) := perform_enables_enabled (enableOrder.take n) (tookCap s) c
    have hdev := perform_enables_dev (enableOrder.take n) (tookCap s)
    have hls := perform_enables_ls (enableOrder.take n) (tookCap s)
    generalize perform ((enableOrder.take n).map (outEnable · true)) (tookCap s) = w at *
    have htdev := perform_take_initEnd_dev (n - 6) w
    rw [← ht] at htdev
    rw [htdev]
    refine ⟨fun c => ?_, fun c => ?_, ?_⟩
    · rw [apply_ite Devices.enabled, turn_dev_enabled, ite_self, henabled]
      simp [mem_take_enableOrder]
    · have hlevel : w.dev.level = s.dev.level := by rw [hdev]; rfl
      have hblue : w.ls.get .frontBlue = s.ls.frontBlue := by rw [hls]; rfl
      split
      · rw [turn_level, hlevel, hblue]
        have : 8 ≤ n + 1 := by omega
        simp [this, LightState.level, Config.levelOn]
      · have : ¬ 8 ≤ n + 1 := by omega
        simp [this, hlevel]
    · split
      · rw [turn_dev_frame, hdev]; rfl
      · rw [hdev]; rfl

/-- INIT takes the capability answer with its first action, whatever the answer is. -/
theorem perform_take_initActions_cap (s : State) (n : Nat) :
    (perform ((initActions s).take n) s).env.cap = if 1 ≤ n then s.env.cap.advance else s.env.cap := by
  obtain ⟨as, has, hkeep⟩ : ∃ as, initActions s = tookCap :: as ∧ ∀ a ∈ as, ∀ t, (a t).env.cap = t.env.cap := by
    unfold initActions
    split
    · exact ⟨_, rfl, by simp [enableActions]⟩
    · exact ⟨_, rfl, by simp⟩
  cases n with
  | zero => rfl
  | succ n =>
    rw [has, List.take_succ_cons, perform_cons, perform_take_keeps (·.env.cap) hkeep]
    simp

theorem perform_take_initActions_fail {s : State} (hc : s.capAnswer ≠ 0) (n : Nat) :
    (perform ((initActions s).take n) s).dev = s.dev :=
  perform_take_keeps State.dev (by rw [initActions, if_neg hc]; simp) n s

/-! ### SAMPLE, FILTER, DECODE and APPLY -/

/-- The capture inside SAMPLE: reset, enabled, filled at the end of the period, disabled (R57). -/
theorem perform_take_sampleActions (s : State) (n : Nat) :
    (perform (sampleActions.take n) s).dev = { s.dev with
      icEnabled := if n ≤ 1 then s.dev.icEnabled else decide (n ≤ 3)
      icCount := if n = 0 then s.dev.icCount else if n ≤ 2 then 0 else s.sampleAnswer } ∧
    (perform (sampleActions.take n) s).env.icElapsed =
      if n ≤ 2 then s.env.icElapsed else s.env.icElapsed.advance := by
  match n with
  | 0 | 1 | 2 | 3 | 4 | 5 => exact ⟨rfl, rfl⟩
  | n + 6 =>
    rw [List.take_of_length_le (by simp [sampleActions]), perform_sampleActions]
    simp

theorem perform_take_filter_dev (mode : FilterMode) (s : State) (n : Nat) :
    (perform ((actions (phaseInstr mode .filter) s).take n) s).dev = s.dev := by
  refine perform_take_keeps State.dev ?_ n s
  cases mode with
  | consensus => exact List.forall_mem_singleton.2 fun t => (filterCs_ev_dev_env t).2.1
  | movingAverage => exact List.forall_mem_singleton.2 fun t => by rw [filterMa_eq]

theorem writeCfg_dev (idx : Int) (s : State) : (writeCfg idx s).dev = s.dev := by
  unfold writeCfg
  split <;> rfl

theorem perform_take_decodeActions_dev (s : State) (n : Nat) :
    (perform ((decodeActions s).take n) s).dev = s.dev :=
  perform_take_keeps State.dev (by simp [decodeActions, writeCfg_dev]) n s

/-- After its first action APPLY has driven the FrontWhite slot (R74, R76 to R78). -/
theorem perform_take_one_applyActions (s : State) {v : LightState}
    (hv : v = if cfgHighBeam s.cfg then .high else if cfgDayNight s.cfg then .on else .off) :
    perform ((applyActions s).take 1) s = turn .frontWhite v s := by
  rw [hv, ← applyFrontWhite_eq]
  rfl

/-- Settles O8: the step is a reset after `n` actions of the phase's operation, and a reset keeps the peripherals and the
environment as those left them. -/
theorem resetInsideKeepsWhatWasDriven : Obligations.ResetInsideKeepsWhatWasDriven := by
  intro s n hi hr
  refine ⟨_, step_of_rst hr, ?_⟩
  rw [resetInside_of_noIssue hi, applyReset_dev, applyReset_env]
  refine ⟨fun hp hc => ?_, fun hp hc => ?_, fun hp => ?_, fun hp => ?_, fun hp hn v hv => ?_⟩
  · rw [hp]
    obtain ⟨henabled, hlevel, hframe⟩ := perform_take_initActions_pass (s := fetched s) hc n rfl
    exact ⟨henabled, hlevel, hframe, perform_take_initActions_cap (fetched s) n⟩
  · rw [hp]
    exact ⟨perform_take_initActions_fail (s := fetched s) hc n, perform_take_initActions_cap (fetched s) n⟩
  · rw [hp]
    exact perform_take_sampleActions (fetched s) n
  · rcases hp with hp | hp | hp <;> rw [hp]
    · exact perform_take_filter_dev _ (fetched s) n
    · exact perform_take_decodeActions_dev (fetched s) n
    · rw [phaseInstr, actions, List.take_nil]; rfl
  · have hfront := perform_take_one_applyActions (fetched s) hv
    rw [hp, hn, phaseInstr, actions, hfront]
    exact ⟨fun c => turn_level .frontWhite c v (fetched s), turn_dev_frame .frontWhite v (fetched s)⟩

end Sys2Proof.Machine
end

section
/-!
PROOF of O1 to O4. Each format's decoder as one equivalence: a word decodes to an instruction exactly when it is that
instruction's encoding, in the bits that are examined (R42, R45 to R47). Both directions of the round trip follow.
-/

namespace Sys2Proof.Machine

/-! ### Format PHASE (R47) -/

theorem decodePhase_eq_ok_iff {mode : FilterMode} {w : PhaseCode} {i : Instr} :
    decodePhase mode w = .ok i ↔ i.wellFormed mode = true ∧ encode i = .phase w := by
  constructor
  · intro h
    unfold decodePhase at h
    split_ifs at h with h0 h1 h2 h3 h4 h7
    · cases h; subst h0; exact ⟨rfl, rfl⟩
    · cases h; subst h1; exact ⟨rfl, rfl⟩
    · subst h2; cases mode <;> cases h <;> exact ⟨rfl, rfl⟩
    · cases h; subst h3; exact ⟨rfl, rfl⟩
    · cases h; subst h4; exact ⟨rfl, rfl⟩
    · cases h; subst h7; exact ⟨rfl, rfl⟩
  · rintro ⟨hmode, he⟩
    cases i with
    | init | sample | decode | apply | halt => cases he; rfl
    | filterCs => cases he; cases of_decide_eq_true hmode; rfl
    | filterMa => cases he; cases of_decide_eq_true hmode; rfl
    | _ => cases he

/-- Every instruction whose word is not of format PHASE exists in every machine (R59). -/
theorem wellFormed_of_encode {i : Instr} (h : ∀ w, encode i ≠ .phase w) (mode : FilterMode) :
    i.wellFormed mode = true := by
  cases i with
  | filterCs | filterMa => exact absurd rfl (h 2)
  | _ => rfl

/-! ### Format OUT (R44, R45) -/

theorem Channel.ofId_eq_some_iff {w : BitVec 3} {c : Channel} : Channel.ofId w = some c ↔ c.id = w := by
  constructor
  · intro h
    unfold Channel.ofId at h
    split_ifs at h <;> cases h <;> exact Eq.symm ‹_›
  · rintro rfl
    cases c <;> rfl

theorem Channel.ofId_id (c : Channel) : Channel.ofId c.id = some c := Channel.ofId_eq_some_iff.2 rfl

theorem outWord_kind (k : Bool) (c : Channel) (p : Level) : (outWord k c p).getLsbD 10 = k := by
  simp only [outWord, BitVec.getLsbD_append]
  simp

theorem outWord_channel (k : Bool) (c : Channel) (p : Level) : (outWord k c p).extractLsb' 7 3 = c.id := by
  rw [outWord, BitVec.extractLsb'_append_eq_of_le (by decide), BitVec.extractLsb'_append_eq_of_add_le (by decide)]
  simp

theorem outWord_payload (k : Bool) (c : Channel) (p : Level) : (outWord k c p).extractLsb' 0 7 = p := by
  rw [outWord, BitVec.extractLsb'_append_eq_of_add_le (by decide)]
  simp

/-- An OUT word is made of its three fields. -/
theorem eq_outWord {w : OutWord} {c : Channel} (h : c.id = w.extractLsb' 7 3) :
    w = outWord (w.getLsbD 10) c (w.extractLsb' 0 7) := by
  rw [outWord, h]
  apply BitVec.eq_of_getLsbD_eq
  intro i hi
  simp only [BitVec.getLsbD_append, BitVec.getLsbD_extractLsb', BitVec.getLsbD_ofBool]
  by_cases hp : i < 7
  · simp [hp]
  · by_cases hc : i - 7 < 3
    · simp [hp, hc, show 7 + (i - 7) = i by omega]
    · obtain rfl : i = 10 := by omega
      simp

theorem decodeOut_of_noChannel {w : OutWord} (h : Channel.ofId (w.extractLsb' 7 3) = none) :
    decodeOut w = .error .noChannel := by
  rw [decodeOut, h]

theorem decodeOut_level (c : Channel) (p : Level) :
    decodeOut (outWord false c p) =
      if p = Config.levelOff then .ok (.outLevelOff c)
      else if p = Config.levelOn then .ok (.outLevelOn c)
      else if p = Config.levelHigh then .ok (.outLevelHigh c)
      else .error .reservedLevel := by
  simp only [decodeOut, outWord_channel, Channel.ofId_id, outWord_payload, outWord_kind]
  rfl

theorem decodeOut_enable (c : Channel) (p : Level) :
    decodeOut (outWord true c p) =
      if p = 0 then .ok (.outEnable c false)
      else if p = 1 then .ok (.outEnable c true)
      else .error .reservedEnable := by
  simp only [decodeOut, outWord_channel, Channel.ofId_id, outWord_payload, outWord_kind]
  rfl

theorem decodeOut_eq_ok_iff {w : OutWord} {i : Instr} : decodeOut w = .ok i ↔ encode i = .out w := by
  constructor
  · intro h
    cases hid : Channel.ofId (w.extractLsb' 7 3) with
    | none => rw [decodeOut_of_noChannel hid] at h; cases h
    | some c =>
      rw [eq_outWord (Channel.ofId_eq_some_iff.1 hid)] at h ⊢
      generalize w.extractLsb' 0 7 = p at h ⊢
      generalize w.getLsbD 10 = k at h ⊢
      cases k with
      | false =>
        rw [decodeOut_level] at h
        split_ifs at h <;> cases h <;> subst p <;> rfl
      | true =>
        rw [decodeOut_enable] at h
        split_ifs at h <;> cases h <;> subst p <;> rfl
  · intro he
    cases i with
    | outLevelOff | outLevelOn | outLevelHigh => cases he; rw [decodeOut_level]; rfl
    | outEnable c e => cases he; rw [decodeOut_enable]; cases e <;> rfl
    | _ => cases he

/-! ### Format ICC (R46) -/

theorem decodeIcc_eq_ok_iff {w : IccWord} {i : Instr} : decodeIcc w = .ok i ↔ encode i = .icc w := by
  have hw : w = iccWord (w.getLsbD 1) (w.getLsbD 0) := by revert w; decide
  constructor
  · intro h
    unfold decodeIcc at h
    split_ifs at h with hop hbit
    · cases h
      rw [encode, ← hop, ← hw]
    · cases h
      rw [hw, eq_false_of_ne_true hop, eq_false_of_ne_true hbit]
      rfl
  · intro he
    cases i with
    | icReset => cases he; rfl
    | icEnable e => cases he; cases e <;> rfl
    | _ => cases he

/-! ### Format CFG (R40, R42) -/

/-! What each mask of R42 leaves of a word, by the fields it examines. -/

theorem and_highBeam (w : CfgWord) : w &&& 0x10 = if cfgHighBeam w then 0x10 else 0 := by
  revert w; decide

theorem and_highBeam_dayNight (w : CfgWord) :
    w &&& 0x30 = (if cfgHighBeam w then 0x10 else 0) ||| (if cfgDayNight w then 0x20 else 0) := by
  revert w; decide

theorem and_brake (w : CfgWord) : w &&& 0x01 = if cfgBrake w then 0x01 else 0 := by
  revert w; decide

theorem and_brake_dayNight (w : CfgWord) :
    w &&& 0x21 = (if cfgBrake w then 0x01 else 0) ||| (if cfgDayNight w then 0x20 else 0) := by
  revert w; decide

theorem and_reverse (w : CfgWord) : w &&& 0x02 = if cfgReverse w then 0x02 else 0 := by
  revert w; decide

theorem and_blink (w : CfgWord) : w &&& (0x0C : CfgWord) = (cfgBlink w).setWidth 6 <<< 2 := by
  revert w; decide

/-! What each slot selects, by the fields it examines. -/

theorem decodeSlot_frontWhite (w : CfgWord) : decodeSlot .frontWhite w =
    if cfgHighBeam w then .fwHigh else if cfgDayNight w then .fwOn else .fwOff := rfl

theorem decodeSlot_stop (w : CfgWord) : decodeSlot .stop w =
    if cfgBrake w then .stopHigh else if cfgDayNight w then .stopOn else .stopOff := rfl

theorem decodeSlot_reverse (w : CfgWord) : decodeSlot .reverse w = if cfgReverse w then .revOn else .revOff := rfl

theorem decodeSlot_blinkers (w : CfgWord) : decodeSlot .blinkers w =
    if cfgBlink w = 0 then .blinkNone else if cfgBlink w = 1 then .blinkLeft
    else if cfgBlink w = 2 then .blinkRight else .blinkHazard := rfl

/-- The word matches the pattern of the instruction in the slot (R42). -/
def Matches (k : Slot) (w : CfgWord) (i : Instr) : Prop :=
  ∃ m : CfgWord, subMask i = some m ∧ encode i = .sub k (w &&& m)

/-- The patterns of a slot cover all words: the sub-operation the slot selects is one that the word matches. -/
theorem matches_decodeSlot (k : Slot) (w : CfgWord) : Matches k w (decodeSlot k w) := by
  cases k with
  | frontWhite =>
    rw [decodeSlot_frontWhite]
    split_ifs with hhigh hday
    · exact ⟨0x10, rfl, by rw [and_highBeam, if_pos hhigh]; rfl⟩
    · exact ⟨0x30, rfl, by rw [and_highBeam_dayNight, if_neg hhigh, if_pos hday]; rfl⟩
    · exact ⟨0x30, rfl, by rw [and_highBeam_dayNight, if_neg hhigh, if_neg hday]; rfl⟩
  | stop =>
    rw [decodeSlot_stop]
    split_ifs with hbrake hday
    · exact ⟨0x01, rfl, by rw [and_brake, if_pos hbrake]; rfl⟩
    · exact ⟨0x21, rfl, by rw [and_brake_dayNight, if_neg hbrake, if_pos hday]; rfl⟩
    · exact ⟨0x21, rfl, by rw [and_brake_dayNight, if_neg hbrake, if_neg hday]; rfl⟩
  | reverse =>
    rw [decodeSlot_reverse]
    split_ifs with hreverse
    · exact ⟨0x02, rfl, by rw [and_reverse, if_pos hreverse]; rfl⟩
    · exact ⟨0x02, rfl, by rw [and_reverse, if_neg hreverse]; rfl⟩
  | blinkers =>
    rw [decodeSlot_blinkers]
    split_ifs with h0 h1 h2
    · exact ⟨0x0C, rfl, by rw [and_blink, h0]; rfl⟩
    · exact ⟨0x0C, rfl, by rw [and_blink, h1]; rfl⟩
    · exact ⟨0x0C, rfl, by rw [and_blink, h2]; rfl⟩
    · have h3 : cfgBlink w = 3 := by generalize cfgBlink w = b at *; revert b; decide
      exact ⟨0x0C, rfl, by rw [and_blink, h3]; rfl⟩

/-- A word matches no pattern but that of the sub-operation selected: the patterns of a slot are disjoint. -/
theorem Matches.decodeSlot_eq {k : Slot} {w : CfgWord} {i : Instr} (h : Matches k w i) : decodeSlot k w = i := by
  obtain ⟨m, hm, he⟩ := h
  cases i <;> cases hm <;> injection he with hk hw <;> subst hk
  case fwHigh =>
    rw [and_highBeam] at hw
    cases hh : cfgHighBeam w <;> simp_all [decodeSlot_frontWhite]
  case fwOn | fwOff =>
    rw [and_highBeam_dayNight] at hw
    cases hh : cfgHighBeam w <;> cases hd : cfgDayNight w <;> simp_all [decodeSlot_frontWhite]
  case stopHigh =>
    rw [and_brake] at hw
    cases hb : cfgBrake w <;> simp_all [decodeSlot_stop]
  case stopOn | stopOff =>
    rw [and_brake_dayNight] at hw
    cases hb : cfgBrake w <;> cases hd : cfgDayNight w <;> simp_all [decodeSlot_stop]
  case revOn | revOff =>
    rw [and_reverse] at hw
    cases hr : cfgReverse w <;> simp_all [decodeSlot_reverse]
  case blinkNone | blinkLeft | blinkRight | blinkHazard =>
    rw [and_blink] at hw
    rw [decodeSlot_blinkers]
    generalize cfgBlink w = b at hw ⊢
    revert b
    decide

theorem decodeSlot_eq_iff {k : Slot} {w : CfgWord} {i : Instr} : decodeSlot k w = i ↔ Matches k w i :=
  ⟨fun h => h ▸ matches_decodeSlot k w, Matches.decodeSlot_eq⟩

/-- The word of a sub-operation matches its own pattern. -/
theorem matches_of_encode {i : Instr} {k : Slot} {v : CfgWord} (h : encode i = .sub k v) : Matches k v i := by
  cases i <;> cases h <;> exact ⟨_, rfl, rfl⟩

/-! ### The statements -/

/-- Settles O1: each format's decoder is an equivalence with the encoder. -/
theorem decodeOfEncodeIsTheInstruction : Obligations.DecodeOfEncodeIsTheInstruction := by
  intro mode i hwf
  cases he : encode i with
  | phase w => exact decodePhase_eq_ok_iff.2 ⟨hwf, he⟩
  | sub k v => exact congrArg Except.ok (matches_of_encode he).decodeSlot_eq
  | out w => exact decodeOut_eq_ok_iff.2 he
  | icc w => exact decodeIcc_eq_ok_iff.2 he

/-- Settles O2: the equivalences, from the word to the instruction. -/
theorem decodedWordIsTheEncoding : Obligations.DecodedWordIsTheEncoding := by
  intro mode w i h
  cases w with
  | phase v => exact decodePhase_eq_ok_iff.1 h
  | sub k v =>
    cases h
    obtain ⟨m, hm, he⟩ := matches_decodeSlot k v
    exact ⟨wellFormed_of_encode (by simp [he]) mode, m, hm, he⟩
  | out v =>
    have he := decodeOut_eq_ok_iff.1 h
    exact ⟨wellFormed_of_encode (by simp [he]) mode, he⟩
  | icc v =>
    have he := decodeIcc_eq_ok_iff.1 h
    exact ⟨wellFormed_of_encode (by simp [he]) mode, he⟩

/-- Settles O3: an instruction has one mask and one word, so matching its pattern is agreeing with that word in the
mask. -/
theorem slotSelectsItsOnlyMatch : Obligations.SlotSelectsItsOnlyMatch := by
  intro k w i m v hm he
  rw [decodeSlot_eq_iff, Matches, hm, he]
  simp [eq_comm]

/-- Settles O4: each word is decoded by evaluation. -/
theorem wordsOfTheSpecDecode : Obligations.WordsOfTheSpecDecode :=
  ⟨rfl, rfl, rfl, rfl, rfl, rfl, rfl, rfl, rfl, rfl⟩

end Sys2Proof.Machine
end

section
/-!
PROOF of O5. The packing is the quotient and the remainder by 3, each in a field of its own (R41), so reading the two
fields inverts it.
-/

namespace Sys2Proof.Machine

/-- The packed fields do not overlap: the word is four times the quotient and the remainder. -/
theorem pack_toNat {n : Nat} (h : n < 48) : (pack n).toNat = 4 * (n / 3) + n % 3 := by
  have hor : n % 3 ||| (n / 3) <<< 2 = (n / 3) <<< 2 + n % 3 := by
    rw [Nat.or_comm, Nat.shiftLeft_add_eq_or_of_lt (by omega)]
  rw [pack, BitVec.toNat_ofNat, hor, Nat.shiftLeft_eq]
  omega

/-- Bits 1 and 0 of a configuration word, as a number. -/
theorem lowField_toNat (w : CfgWord) : (w.extractLsb' 0 2).toNat = w.toNat % 4 := by
  simp [BitVec.extractLsb'_toNat]

/-- Bits 5 to 2 of a configuration word, as a number. -/
theorem highField_toNat (w : CfgWord) : (w.extractLsb' 2 4).toNat = w.toNat / 4 := by
  have := w.isLt
  rw [BitVec.extractLsb'_toNat, Nat.shiftRight_eq_div_pow]
  omega

theorem lowField_eq_three_iff (w : CfgWord) : w.extractLsb' 0 2 = 3 ↔ w.toNat % 4 = 3 := by
  rw [← BitVec.toNat_inj, lowField_toNat]
  rfl

/-- Settles O5: a word whose low field is a remainder is packed from three times its high field and that remainder. -/
theorem packingRoundTrip : Obligations.PackingRoundTrip := by
  refine ⟨fun n hn => ?_, fun w => ?_⟩
  · rw [lowField_toNat, highField_toNat, pack_toNat hn]
    omega
  · rw [ne_eq, lowField_eq_three_iff]
    constructor
    · intro hlow
      have hw := w.isLt
      have hn : 3 * (w.toNat / 4) + w.toNat % 4 < 48 := by omega
      refine ⟨_, hn, BitVec.eq_of_toNat_eq ?_⟩
      rw [pack_toNat hn]
      omega
    · rintro ⟨n, hn, rfl⟩
      rw [pack_toNat hn]
      omega

end Sys2Proof.Machine
end

section
/-!
PROOF of O41, O42 and O44. BLINK.LEFT and BLINK.RIGHT are one operation, with the two blinkers exchanged: BLINK of one
and TURN Off of the other (R91, R92). APPLY's slots are the sub-operations its word selects (R42, R74).
-/

namespace Sys2Proof.Machine

/-! ### BLINK of one blinker and TURN Off of the other -/

/-- A TURN of a channel whose light is still the one of `s` lets the levels follow (R86). -/
theorem levelsFollow.turn {s t : State} (h : levelsFollow s t) {c : Channel} (hc : t.ls.get c = s.ls.get c)
    (v : LightState) : levelsFollow s (turn c v t) := by
  intro d
  rw [turn_level, turn_ls, ChannelFile.get_set]
  by_cases hd : d = c
  · subst hd
    have hlevel := h d
    rw [if_pos hc] at hlevel
    by_cases hv : s.ls.get d = v
    · simp [hc, hv, hlevel]
    · simp [hc, hv, Ne.symm hv]
  · simpa [hd] using h d

theorem levelsFollow_blinkEval (e : Channel) (s : State) : levelsFollow s (blinkEval e s) := fun _ => by simp

/-- What BLINK(c) and then TURN(d, Off) do: one evaluation of the timer of `c`, one clock reading, and the two lights
with their events in this order (R51, R88, R91, R92). -/
theorem blink_then_off {c d : Channel} (hcd : d ≠ c) {s t : State} {e : Channel} {tm : BlinkTimer}
    (he : e = tsel s.par.timerMode c) (htm : tm = (s.bt.get e).eval s.par.blinkInterval s.clockAnswer)
    (ht : t = perform (blinkActions s.par.timerMode c ++ [turn d .off]) s) :
    (∀ x : Channel, t.bt.get x = if x = e then tm else s.bt.get x) ∧
    t.ls = (s.ls.set c (driven tm.phaseOn (s.ls.get c))).set d .off ∧
    t.ev = s.ev ++ turnEvents c (s.ls.get c) (driven tm.phaseOn (s.ls.get c))
      ++ turnEvents d (s.ls.get d) .off ∧
    t.env.now = s.env.now.advance ∧ levelsFollow s t := by
  rw [perform_append, perform_blinkActions, ← he, ← htm, perform_cons, perform_nil] at ht
  subst ht
  refine ⟨fun x => ?_, ?_, ?_, ?_, ?_⟩
  · simp [ChannelFile.get_set, htm]
  · simp
  · simp [ChannelFile.get_set_ne _ hcd]
  · simp
  · exact ((levelsFollow_blinkEval e s).turn rfl _).turn (by simp [ChannelFile.get_set_ne _ hcd]) .off

theorem decodeSlot_eq_blinkLeft_iff (w : CfgWord) : decodeSlot .blinkers w = .blinkLeft ↔ cfgBlink w = 1 := by
  rw [decodeSlot_blinkers]
  generalize cfgBlink w = b
  revert b
  decide

theorem decodeSlot_eq_blinkRight_iff (w : CfgWord) : decodeSlot .blinkers w = .blinkRight ↔ cfgBlink w = 2 := by
  rw [decodeSlot_blinkers]
  generalize cfgBlink w = b
  revert b
  decide

/-- Settles O41: the blinker driven is the left one. -/
theorem blinkLeftBlinksTheLeft : Obligations.BlinkLeftBlinksTheLeft := by
  refine ⟨fun s e tm he htm => ?_, decodeSlot_eq_blinkLeft_iff⟩
  obtain ⟨hbt, hls, hev, hnow, hlevels⟩ := blink_then_off (c := .left) (d := .right) (by decide) he htm rfl
  exact ⟨_, rfl, hbt, hls, hev, hnow, hlevels, LightRun.refl.blinkLeft.onlyBlink⟩

/-- Settles O42: the blinker driven is the right one. -/
theorem blinkRightBlinksTheRight : Obligations.BlinkRightBlinksTheRight := by
  refine ⟨fun s e tm he htm => ?_, decodeSlot_eq_blinkRight_iff⟩
  obtain ⟨hbt, hls, hev, hnow, hlevels⟩ := blink_then_off (c := .right) (d := .left) (by decide) he htm rfl
  exact ⟨_, rfl, hbt, hls, hev, hnow, hlevels, LightRun.refl.blinkRight.onlyBlink⟩

/-! ### The slots of APPLY -/

theorem exec_decodeSlot_frontWhite (w : CfgWord) (s : State) :
    exec (decodeSlot .frontWhite w) s = .next (applyFrontWhite w s) := by
  rw [decodeSlot_frontWhite, applyFrontWhite]
  split_ifs <;> rfl

theorem exec_decodeSlot_stop (w : CfgWord) (s : State) : exec (decodeSlot .stop w) s = .next (applyStop w s) := by
  rw [decodeSlot_stop, applyStop]
  split_ifs <;> rfl

theorem exec_decodeSlot_reverse (w : CfgWord) (s : State) :
    exec (decodeSlot .reverse w) s = .next (applyReverse w s) := by
  rw [decodeSlot_reverse, applyReverse]
  split_ifs <;> rfl

theorem exec_decodeSlot_blinkers (w : CfgWord) (s : State) :
    exec (decodeSlot .blinkers w) s = .next (perform (blinkersActions w s.par.timerMode) s) := by
  rw [decodeSlot_blinkers, blinkersActions]
  split_ifs <;> rfl

/-- Settles O44: APPLY's actions are those of its slots; the first three leave the parameters, by which the Blinkers
slot finds its timers. -/
theorem applyRunsTheSelectedSubOperations : Obligations.ApplyRunsTheSelectedSubOperations := by
  intro s
  refine ⟨_, _, _, _, exec_decodeSlot_frontWhite s.cfg s, exec_decodeSlot_stop s.cfg _,
    exec_decodeSlot_reverse s.cfg _, exec_decodeSlot_blinkers s.cfg _, ?_⟩
  have hpar : (applyReverse s.cfg (applyStop s.cfg (applyFrontWhite s.cfg s))).par = s.par := by
    simp [applyReverse_eq, applyStop_eq, applyFrontWhite_eq]
  rw [hpar, exec, execApply, applyActions, slotActions, perform_append, perform_append]
  rfl

end Sys2Proof.Machine
end

section
/-!
PROOF of O11, O49, O50 and O60. A port word is one call and one event, which drives that word (R45, R46). Every event an
operation appends is one of those, so the word it drives decodes (R43 to R46).
-/

namespace Sys2Proof.Machine

theorem step_of_decode_error {s : State} {e : DecodeError} (hr : s.rstAnswer = none)
    (hd : decode s.par.filterMode (fetch s) = .error e) : step s = .refused (.noRule e) := by
  simp only [step, hr, hd]

/-- Settles O11: the branch of a step whose word has no rule. -/
theorem stepStopsOnReservedCodes : Obligations.StepStopsOnReservedCodes := fun _ _ => step_of_decode_error

/-! ### The word an event drives -/

/-- The port operation that writes the level of a light state (R43, R45). -/
def levelInstr (c : Channel) : LightState → Instr
  | .off => .outLevelOff c
  | .on => .outLevelOn c
  | .high => .outLevelHigh c

theorem exec_levelInstr (c : Channel) (v : LightState) (s : State) :
    exec (levelInstr c v) s = .next (outLevel c v.level s) := by
  cases v <;> rfl

theorem word_outLevel (c : Channel) (v : LightState) : (Event.outLevel c v.level).word = encode (levelInstr c v) := by
  cases v <;> rfl

theorem word_outEnable (c : Channel) (b : Bool) : (Event.outEnable c b).word = encode (.outEnable c b) := rfl

theorem word_icReset : Event.icReset.word = encode .icReset := rfl

theorem word_icEnable (b : Bool) : (Event.icEnable b).word = encode (.icEnable b) := rfl

/-- Settles O49: the three level words are those of the three light states. -/
theorem outputWordsCommandOneChannel : Obligations.OutputWordsCommandOneChannel := fun s c e =>
  ⟨⟨exec_levelInstr c .off s, word_outLevel c .off⟩, ⟨exec_levelInstr c .on s, word_outLevel c .on⟩,
    ⟨exec_levelInstr c .high s, word_outLevel c .high⟩, ⟨rfl, word_outEnable c e⟩⟩

/-- Settles O50: each word is its call by definition. -/
theorem captureWordsCommandTheCapture : Obligations.CaptureWordsCommandTheCapture := fun _ e =>
  ⟨⟨rfl, word_icReset⟩, ⟨rfl, word_icEnable e⟩⟩

/-! ### Listed events -/

/-- The event drives a word that decodes, and is the encoding of what it decodes to. -/
def Listed (mode : FilterMode) (e : Event) : Prop := ∃ j : Instr, decode mode e.word = .ok j ∧ encode j = e.word

/-- What drives the word of an instruction of the machine is listed: the round trip of the encoding. -/
theorem listed_of_word {mode : FilterMode} {e : Event} {j : Instr} (hj : j.wellFormed mode = true)
    (hw : e.word = encode j) : Listed mode e :=
  ⟨j, by rw [hw]; exact decodeOfEncodeIsTheInstruction mode j hj, hw.symm⟩

theorem listed_outLevel (mode : FilterMode) (c : Channel) (v : LightState) : Listed mode (.outLevel c v.level) :=
  listed_of_word (by cases v <;> rfl) (word_outLevel c v)

theorem listed_outEnable (mode : FilterMode) (c : Channel) (b : Bool) : Listed mode (.outEnable c b) :=
  listed_of_word rfl (word_outEnable c b)

theorem listed_icReset (mode : FilterMode) : Listed mode .icReset := listed_of_word rfl word_icReset

theorem listed_icEnable (mode : FilterMode) (b : Bool) : Listed mode (.icEnable b) :=
  listed_of_word rfl (word_icEnable b)

theorem listed_turnEvents (mode : FilterMode) (c : Channel) (old new : LightState) :
    ∀ e ∈ turnEvents c old new, Listed mode e := by
  unfold turnEvents
  split
  · exact List.forall_mem_nil _
  · exact List.forall_mem_singleton.2 (listed_outLevel mode c new)

/-- From `s` to `t` listed events alone have been appended to the trace. -/
def EmitsListed (mode : FilterMode) (s t : State) : Prop :=
  ∃ l : List Event, t.ev = s.ev ++ l ∧ ∀ e ∈ l, Listed mode e

theorem emitsListed_of_ev_eq {mode : FilterMode} {s t : State} (h : t.ev = s.ev) : EmitsListed mode s t :=
  ⟨[], by simp [h], List.forall_mem_nil _⟩

theorem emitsListed_of_emit {mode : FilterMode} {s t : State} {e : Event} (hev : t.ev = s.ev ++ [e])
    (he : Listed mode e) : EmitsListed mode s t := ⟨[e], hev, List.forall_mem_singleton.2 he⟩

theorem EmitsListed.append {mode : FilterMode} {s t u : State} (h : EmitsListed mode s t) {l : List Event}
    (hev : u.ev = t.ev ++ l) (hl : ∀ e ∈ l, Listed mode e) : EmitsListed mode s u := by
  obtain ⟨k, hk, hlisted⟩ := h
  exact ⟨k ++ l, by rw [hev, hk, List.append_assoc], List.forall_mem_append.2 ⟨hlisted, hl⟩⟩

theorem EmitsListed.turn {mode : FilterMode} {s t : State} (h : EmitsListed mode s t) (c : Channel) (v : LightState) :
    EmitsListed mode s (turn c v t) := h.append (turn_ev c v t) (listed_turnEvents mode c _ v)

theorem LightRun.emitsListed {mode : FilterMode} {s t : State} (h : LightRun s t) : EmitsListed mode s t := by
  induction h with
  | refl => exact emitsListed_of_ev_eq rfl
  | turn c v _ _ _ ih => exact ih.turn c v
  | eval c _ _ ih => exact ih

/-! ### The operations -/

theorem emitsListed_init (mode : FilterMode) (s : State) : EmitsListed mode s (perform (initActions s) s) := by
  by_cases hc : s.capAnswer = 0
  · rw [perform_initActions_pass s hc]
    have henables : EmitsListed mode s (perform enableActions (tookCap s)) := by
      rw [perform_enableActions]
      exact ⟨_, rfl, by simp [listed_outEnable]⟩
    exact henables.turn .frontBlue .on
  · rw [perform_initActions_fail s hc]
    exact emitsListed_of_ev_eq rfl

theorem emitsListed_sample (mode : FilterMode) (s : State) : EmitsListed mode s (perform sampleActions s) := by
  rw [perform_sampleActions]
  exact ⟨_, rfl, by simp [listed_icReset, listed_icEnable]⟩

theorem emitsListed_apply (mode : FilterMode) (s : State) : EmitsListed mode s (perform (applyActions s) s) := by
  rw [applyActions, perform_append]
  exact (slotActions_lightRun s.cfg s).emitsListed

/-- Every operation that completes has appended listed events alone. -/
theorem exec_emitsListed (mode : FilterMode) {i : Instr} {s t : State} (h : exec i s = .next t) :
    EmitsListed mode s t := by
  cases i with
  | init => cases h; exact emitsListed_init mode s
  | sample => cases h; exact emitsListed_sample mode s
  | filterCs | filterMa | decode | halt =>
    have hf := exec_footprint h
    simp only [Footprint] at hf
    exact emitsListed_of_ev_eq (by rw [hf])
  | apply => cases h; exact emitsListed_apply mode s
  | fwHigh | fwOn | fwOff | stopHigh | stopOn | stopOff | revOn | revOff =>
    cases h; exact (emitsListed_of_ev_eq rfl).turn _ _
  | blinkNone => cases h; exact LightRun.refl.blinkNone.emitsListed
  | blinkLeft => cases h; exact LightRun.refl.blinkLeft.emitsListed
  | blinkRight => cases h; exact LightRun.refl.blinkRight.emitsListed
  | blinkHazard => cases h; exact LightRun.refl.blinkHazard.emitsListed
  | outLevelOff c => cases h; exact emitsListed_of_emit rfl (listed_outLevel mode c .off)
  | outLevelOn c => cases h; exact emitsListed_of_emit rfl (listed_outLevel mode c .on)
  | outLevelHigh c => cases h; exact emitsListed_of_emit rfl (listed_outLevel mode c .high)
  | outEnable c b => cases h; exact emitsListed_of_emit rfl (listed_outEnable mode c b)
  | icReset => cases h; exact emitsListed_of_emit rfl (listed_icReset mode)
  | icEnable b => cases h; exact emitsListed_of_emit rfl (listed_icEnable mode b)

/-- Settles O60: whatever mode the words are read in, the events are listed. -/
theorem onlyListedWordsAreEmitted : Obligations.OnlyListedWordsAreEmitted := fun _ _ _ mode h =>
  exec_emitsListed mode h

end Sys2Proof.Machine
end

section
/-!
PROOF of O16. SAMPLE is its six actions in the order of R57; what they come to is the one update of
`perform_sampleActions`, since the capture is enabled when the period is run (R55).
-/

namespace Sys2Proof.Machine

theorem exec_sample (s : State) : exec .sample s = .next (perform sampleActions s) := rfl

/-- Settles O16: SAMPLE always completes, with the effect of its actions. -/
theorem sampleMeasuresOnce : Obligations.SampleMeasuresOnce := by
  intro s
  rw [exec_sample, perform_sampleActions]

end Sys2Proof.Machine
end

section
/-!
PROOF of O17, O18, O19, O20 and O21. Read from its index on, the ring of FILTER.CS is a window that slides over the
samples (R18, R19); after a run of samples it is the last `CONSENSUS_M` of them, and `STABLE` moves only where all of it
agrees (R60).
-/

namespace Sys2Proof.Machine

/-! ### One FILTER.CS -/

/-- A replaced word and a wrapped index, seen from the index: the oldest word goes and the new one comes last. -/
theorem set_rotate_succ {α : Type} {l : List α} {i : Nat} (hi : i < l.length) (v : α) :
    (l.set i v).rotate ((i + 1) % l.length) = (l.rotate i).tail ++ [v] := by
  have hmod : (l.set i v).rotate ((i + 1) % l.length) = (l.set i v).rotate (i + 1) := by
    simpa using (l.set i v).rotate_mod (i + 1)
  have hdrop : l.drop i ≠ [] := by simpa using hi
  rw [hmod, List.rotate_eq_drop_append_take (by simpa using hi), List.rotate_eq_drop_append_take hi.le,
    List.tail_append_of_ne_nil hdrop, List.tail_drop, List.drop_set_of_lt (Nat.lt_succ_self i),
    List.take_add_one, List.take_set_of_le (Nat.le_refl i)]
  simp [hi]

theorem exec_filterCs {s : State} (h : ringOk .cs s = true) : exec .filterCs s = .next (filterCs s) :=
  exec_filterCs_eq_next.2 ⟨h, rfl⟩

/-- The whole ring is one value when each of its words is. -/
theorem forall_mem_iff_getElem? {l : List Sample} {n : Nat} (hl : l.length = n) (v : Sample) :
    (∀ x ∈ l, x = v) ↔ ∀ i < n, l[i]? = some v := by
  subst hl
  simp +contextual [List.forall_mem_iff_forall_getElem]

/-- Settles O17: where the window agrees with a sample that is no news, adopting it changes nothing. -/
theorem consensusFilterStep : Obligations.ConsensusFilterStep := by
  intro s hlen hidx
  have hring : ringOk .cs s = true := (ringOk_cs s).2 ⟨hlen, hidx⟩
  obtain ⟨hframe, hagree, hdisagree⟩ := filterCs_spec s hring
  have hbuf : (filterCs s).csBuf = s.csBuf.set s.csIdx s.raw := by rw [hframe]
  have hwords : (∀ x ∈ s.csBuf.set s.csIdx s.raw, x = s.raw) ↔
      ∀ i < s.par.consensusM, (filterCs s).csBuf[i]? = some s.raw := by
    rw [hbuf]
    exact forall_mem_iff_getElem? (by simpa using hlen) s.raw
  refine ⟨filterCs s, exec_filterCs hring, hbuf, by rw [hframe], fun hadopt => hagree (hwords.2 hadopt.2),
    fun hkeep => ?_, rfl, ?_⟩
  · by_cases hall : ∀ x ∈ s.csBuf.set s.csIdx s.raw, x = s.raw
    · have hnoNews : s.raw = s.stable := by
        by_contra hne
        exact hkeep ⟨hne, hwords.1 hall⟩
      rw [hagree hall, hnoNews]
    · exact hdisagree hall
  · generalize filterCs s = t at *
    rw [hframe]

/-- Settles O18: the stored window is the ring with the sample in it. -/
theorem consensusAdoptsExactlyAnAgreeingWindow : Obligations.ConsensusAdoptsExactlyAnAgreeingWindow := by
  intro s h
  obtain ⟨hframe, hagree, hdisagree⟩ := filterCs_spec s h
  have hbuf : (filterCs s).csBuf = s.csBuf.set s.csIdx s.raw := by rw [hframe]
  refine ⟨filterCs s, exec_filterCs h, ?_⟩
  rw [hbuf]
  exact ⟨hagree, hdisagree⟩

/-! ### A run of samples -/

/-- FILTER.CS on a given sample. -/
def filterSample (s : State) (x : Sample) : State := filterCs { s with raw := x }

/-- FILTER.CS on each of a list of samples, where every word it touches exists. -/
def fed (xs : List Sample) (s : State) : State := xs.foldl filterSample s

/-- The words of the ring from the oldest to the newest (R19). -/
def window (s : State) : List Sample := s.csBuf.rotate s.csIdx

@[simp] theorem fed_nil (s : State) : fed [] s = s := rfl

@[simp] theorem fed_cons (x : Sample) (xs : List Sample) (s : State) :
    fed (x :: xs) s = fed xs (filterSample s x) := rfl

theorem fed_append (xs ys : List Sample) (s : State) : fed (xs ++ ys) s = fed ys (fed xs s) := List.foldl_append

theorem filterSample_width (s : State) (x : Sample) : (filterSample s x).width = (filterSample s x).stable.toNat := rfl

section
variable {s : State} (h : ringOk .cs s = true)
include h

theorem window_length : (window s).length = s.par.consensusM := by
  rw [window, List.length_rotate]
  exact ((ringOk_cs s).1 h).1

theorem filterSample_par (x : Sample) : (filterSample s x).par = s.par := by
  rw [filterSample, (filterCs_spec { s with raw := x } h).1]

theorem filterSample_keeps_ringOk (x : Sample) : ringOk .cs (filterSample s x) = true := by
  rw [filterSample, (filterCs_spec { s with raw := x } h).1]
  exact advanceIdx_keeps_ringOk .cs .cs _ (by rw [memWrite_keeps_ringOk .cs .cs s.csIdx x s]; exact h)

/-- The window slides by one sample. -/
theorem window_filterSample (x : Sample) : window (filterSample s x) = (window s).tail ++ [x] := by
  obtain ⟨hlen, hidx⟩ := (ringOk_cs s).1 h
  rw [filterSample, (filterCs_spec { s with raw := x } h).1]
  simp only [window]
  rw [← hlen] at hidx ⊢
  exact set_rotate_succ hidx x

/-- R60 (a), over the window. -/
theorem filterSample_stable (x : Sample) :
    ((∀ y ∈ window (filterSample s x), y = x) → (filterSample s x).stable = x) ∧
    (¬ (∀ y ∈ window (filterSample s x), y = x) → (filterSample s x).stable = s.stable) := by
  obtain ⟨hframe, hagree, hdisagree⟩ := filterCs_spec { s with raw := x } h
  have hmem (y : Sample) : y ∈ window (filterSample s x) ↔ y ∈ s.csBuf.set s.csIdx x := by
    rw [window, List.mem_rotate, filterSample, hframe]
  simp only [hmem]
  exact ⟨hagree, hdisagree⟩

/-- Where the ring is in form, `feed` never faults. -/
theorem feed_eq_fed (xs : List Sample) : feed xs s = .next (fed xs s) := by
  induction xs generalizing s with
  | nil => rfl
  | cons x xs ih =>
    have hexec : exec .filterCs { s with raw := x } = .next (filterSample s x) := exec_filterCs h
    rw [feed, hexec]
    exact ih (filterSample_keeps_ringOk h x)

theorem fed_keeps_ringOk (xs : List Sample) : ringOk .cs (fed xs s) = true := by
  induction xs generalizing s with
  | nil => exact h
  | cons x xs ih => exact ih (filterSample_keeps_ringOk h x)

theorem fed_par (xs : List Sample) : (fed xs s).par = s.par := by
  induction xs generalizing s with
  | nil => rfl
  | cons x xs ih => exact (ih (filterSample_keeps_ringOk h x)).trans (filterSample_par h x)

/-- After a run of samples the window is the end of what it was, followed by the samples. -/
theorem window_fed (xs : List Sample) : window (fed xs s) = (window s ++ xs).drop xs.length := by
  induction xs generalizing s with
  | nil => simp
  | cons x xs ih =>
    have hne : window s ≠ [] := by
      rw [← List.length_pos_iff, window_length h]
      exact (params_bounds s.par).2.1
    obtain ⟨oldest, rest, hw⟩ := List.exists_cons_of_ne_nil hne
    rw [fed_cons, ih (filterSample_keeps_ringOk h x), window_filterSample h, hw]
    simp

/-- A sample stays in the window for `CONSENSUS_M` samples, itself included. -/
theorem mem_window_fed {x : Sample} {xs : List Sample} (hlen : xs.length < s.par.consensusM) :
    x ∈ window (fed (x :: xs) s) := by
  have hdrop : xs.length + 1 ≤ (window s).length := by rw [window_length h]; exact hlen
  rw [window_fed h, List.length_cons, List.drop_append_of_le_length hdrop]
  simp

/-- A sample does not change `STABLE` while a different one is in the window. -/
theorem fed_concat_stable {x y : Sample} {xs : List Sample} (hlen : xs.length + 1 < s.par.consensusM) (hxy : x ≠ y) :
    (fed (x :: xs ++ [y]) s).stable = (fed (x :: xs) s).stable := by
  have hmem : x ∈ window (fed (x :: (xs ++ [y])) s) := mem_window_fed h (by simpa using hlen)
  rw [← List.cons_append, fed_append] at hmem
  rw [fed_append]
  exact (filterSample_stable (fed_keeps_ringOk h (x :: xs)) y).2 fun hall => hxy (hall x hmem)

end

/-! ### R60, R61 -/

/-- Settles O19: by then the window holds nothing else. -/
theorem equalSamplesAreAccepted : Obligations.EqualSamplesAreAccepted := by
  intro s v h
  obtain ⟨k, hk⟩ := Nat.exists_eq_add_of_le' (params_bounds s.par).2.1
  have hlast : fed (List.replicate s.par.consensusM v) s = filterSample (fed (List.replicate k v) s) v := by
    rw [hk, List.replicate_succ', fed_append]
    rfl
  have hwindow : window (fed (List.replicate s.par.consensusM v) s) = List.replicate s.par.consensusM v := by
    rw [window_fed h, List.length_replicate, List.drop_left' (window_length h)]
  have hstable : (fed (List.replicate s.par.consensusM v) s).stable = v := by
    rw [hlast] at hwindow ⊢
    refine (filterSample_stable (fed_keeps_ringOk h _) v).1 ?_
    rw [hwindow]
    exact fun y => List.eq_of_mem_replicate
  refine ⟨_, feed_eq_fed h _, hstable, ?_⟩
  rw [hlast] at hstable ⊢
  rw [filterSample_width, hstable]

/-- A sample other than `v` does not make `v` stable. -/
theorem filterSample_stable_ne {s : State} (h : ringOk .cs s = true) {v x : Sample} (hs : s.stable ≠ v)
    (hx : x ≠ v) : (filterSample s x).stable ≠ v := by
  obtain ⟨hagree, hdisagree⟩ := filterSample_stable h x
  by_cases hall : ∀ y ∈ window (filterSample s x), y = x
  · rwa [hagree hall]
  · rwa [hdisagree hall]

/-- Settles O20, by induction on the samples after the other one, from the last: a further `v` finds `x` still in the
window, and a further sample other than `v` makes at most itself stable. -/
theorem noAcceptanceBeforeAFullWindow : Obligations.NoAcceptanceBeforeAFullWindow := by
  intro s v x xs h hs hx hlen
  refine ⟨_, feed_eq_fed h _, ?_⟩
  induction xs using List.reverseRecOn with
  | nil => exact filterSample_stable_ne h hs hx
  | append_singleton xs y ih =>
    have hlen' : xs.length + 1 < s.par.consensusM := by simpa using hlen
    have hbefore : (fed (x :: xs) s).stable ≠ v := ih (by omega)
    by_cases hy : y = v
    · rw [← List.cons_append, fed_concat_stable h hlen' (by rwa [hy])]
      exact hbefore
    · rw [← List.cons_append, fed_append]
      exact filterSample_stable_ne (fed_keeps_ringOk h _) hbefore hy

/-- Fewer than `CONSENSUS_M` equal samples after a different one leave `STABLE` alone. -/
theorem fed_replicate_stable {s : State} (h : ringOk .cs s = true) {x v : Sample} (hx : x ≠ v) {k : Nat}
    (hk : k < s.par.consensusM) : (fed (x :: List.replicate k v) s).stable = (fed [x] s).stable := by
  induction k with
  | zero => rfl
  | succ k ih =>
    rw [List.replicate_succ', ← List.cons_append, fed_concat_stable h (by simpa using hk) hx]
    exact ih (by omega)

/-- Settles O21: the differing sample finds the last of the equal ones in the window. -/
theorem almostFullWindowIsRejected : Obligations.AlmostFullWindowIsRejected := by
  intro s x v w h hM hx hw
  obtain ⟨k, hk⟩ := Nat.exists_eq_add_of_le' hM
  have hrun : x :: List.replicate (s.par.consensusM - 1) v = x :: List.replicate k v ++ [v] := by
    rw [hk, Nat.add_sub_assoc (by decide), List.replicate_succ', List.cons_append]
  refine ⟨_, _, feed_eq_fed h _, feed_eq_fed h _, ?_⟩
  calc (fed (x :: List.replicate (s.par.consensusM - 1) v ++ [w]) s).stable
      = (fed ([v] ++ [w]) (fed (x :: List.replicate k v) s)).stable := by
        rw [hrun, List.append_assoc, fed_append]
    _ = (fed [v] (fed (x :: List.replicate k v) s)).stable :=
        fed_concat_stable (fed_keeps_ringOk h _) (by rw [fed_par h]; exact hM) hw.symm
    _ = (fed (x :: List.replicate (s.par.consensusM - 1) v) s).stable := by rw [hrun, fed_append]
    _ = (fed [x] s).stable := fed_replicate_stable h hx (by omega)

end Sys2Proof.Machine
end

section
/-!
PROOF of O25, O26, O27, O28, O29 and O31. With `x` the distance of the width from `RANGE_MIN` and `e` half a bucket,
scaled as in O27, R66 is the quotient of `x + e` by `2·e`; one lemma per sign of the index says where that quotient
passes an integer (R8), and the boundaries of R73 and R67 are read off.
-/

namespace Sys2Proof.Machine

/-! ### trunc0 passing an integer (R8) -/

theorem le_trunc0_iff {n d k : Int} (hd : 0 < d) (hk : 0 < k) : k ≤ trunc0 n d ↔ k * d ≤ n := by
  constructor
  · intro h
    by_contra hn
    exact (trunc0_lt hd hk (not_le.1 hn)).not_ge h
  · intro h
    calc k = trunc0 (k * d) d := (Int.mul_tdiv_cancel k hd.ne').symm
      _ ≤ trunc0 n d := Int.tdiv_le_tdiv hd h

theorem trunc0_neg (n d : Int) : trunc0 (-n) d = -trunc0 n d := Int.neg_tdiv n d

theorem trunc0_le_neg_iff {n d k : Int} (hd : 0 < d) (hk : 0 < k) : trunc0 n d ≤ -k ↔ n ≤ -(k * d) := by
  rw [← le_neg, ← trunc0_neg, le_trunc0_iff hd hk, le_neg]

/-! ### The index over the widths (R66, R73) -/

section
variable {p : Params} {w : Nat} {x e : Int}
  (he : e = (denominator p : Int) * ((p.rangeMax.toNat : Int) - (p.rangeMin.toNat : Int)))
include he

theorem idDen_eq_two_mul : idDen p = 2 * e := by
  rw [he, idDen, span, mul_assoc]

variable (hx : x = 94 * ((w : Int) - (denominator p : Int) * (p.rangeMin.toNat : Int)))
include hx

theorem idNum_eq_add : idNum p w = x + e := by
  rw [hx, he]; rfl

/-- The lower end of a bucket above 0. -/
theorem le_idRaw_iff {k : Int} (hk : 1 ≤ k) : k ≤ idRaw p w ↔ (2 * k - 1) * e ≤ x := by
  rw [idRaw, le_trunc0_iff (idDen_pos p) (by omega), idNum_eq_add he hx, idDen_eq_two_mul he,
    show k * (2 * e) = (2 * k - 1) * e + e by ring, add_le_add_iff_right]

/-- The upper end of a bucket below 0. -/
theorem idRaw_le_neg_iff {k : Int} (hk : 1 ≤ k) : idRaw p w ≤ -k ↔ x ≤ -(2 * k + 1) * e := by
  rw [idRaw, trunc0_le_neg_iff (idDen_pos p) (by omega), idNum_eq_add he hx, idDen_eq_two_mul he,
    show -(k * (2 * e)) = -(2 * k + 1) * e + e by ring, add_le_add_iff_right]

end

/-- Settles O27: a bucket lies between its own end and the end of its neighbour away from 0; bucket 0 lies between the
ends of buckets -1 and 1. -/
theorem bucketBoundaries : Obligations.BucketBoundaries := by
  intro p w x e hx he
  refine ⟨fun k hk => ?_, ?_, fun k hk => ?_⟩
  · have hlow := le_idRaw_iff he hx hk
    have hhigh := le_idRaw_iff he hx (k := k + 1) (by omega)
    rw [show 2 * (k + 1) - 1 = 2 * k + 1 by ring] at hhigh
    omega
  · have hlow := idRaw_le_neg_iff he hx le_rfl
    have hhigh := le_idRaw_iff he hx le_rfl
    omega
  · have hhigh := idRaw_le_neg_iff he hx hk
    have hlow := idRaw_le_neg_iff he hx (k := k + 1) (by omega)
    rw [show 2 * (k + 1) + 1 = 2 * k + 3 by ring] at hlow
    omega

theorem idNum_mono (p : Params) {v w : Nat} (h : v ≤ w) : idNum p v ≤ idNum p w := by
  have h' : (v : Int) ≤ w := by exact_mod_cast h
  simp only [idNum, Config.configCount]
  push_cast
  linarith

theorem clamp_mono {a b : Int} (h : a ≤ b) (lo hi : Int) (hlh : lo ≤ hi) : clamp a lo hi ≤ clamp b lo hi := by
  unfold clamp
  split_ifs <;> omega

/-- Settles O28: `num` grows with the width, `den` does not move, and truncation and the clamp keep order. -/
theorem bucketIndexIsMonotone : Obligations.BucketIndexIsMonotone := by
  intro p v w h
  have hraw : idRaw p v ≤ idRaw p w := Int.tdiv_le_tdiv (idDen_pos p) (idNum_mono p h)
  refine ⟨hraw, ?_⟩
  unfold idPacked
  split
  · exact clamp_mono hraw _ _ (by decide)
  · exact hraw

/-! ### The packed index (R67) -/

theorem idPacked_of_clamp {p : Params} (h : p.clampId = true) (idx : Int) : idPacked p idx = clamp idx 0 47 := by
  rw [idPacked, if_pos h]; rfl

theorem idPacked_of_noClamp {p : Params} (h : p.clampId = false) (idx : Int) : idPacked p idx = idx := by
  simp [idPacked, h]

theorem clamp_of_le {v lo hi : Int} (h : v ≤ lo) (hlh : lo ≤ hi) : clamp v lo hi = lo := by
  unfold clamp
  split_ifs <;> omega

theorem clamp_of_ge {v lo hi : Int} (h : hi ≤ v) (hlh : lo ≤ hi) : clamp v lo hi = hi := by
  unfold clamp
  split_ifs <;> omega

/-- Settles O29: a width below bucket 1 has an index of at most 0, one from bucket 47 on an index of at least 47. -/
theorem clampCoversBothEnds : Obligations.ClampCoversBothEnds := by
  intro p w x e hclamp hx he
  rw [idPacked_of_clamp hclamp]
  constructor
  · intro h
    have hone := le_idRaw_iff he hx le_rfl
    exact clamp_of_le (by omega) (by decide)
  · intro h
    exact clamp_of_ge ((le_idRaw_iff he hx (by decide)).2 h) (by decide)

/-! ### DECODE (R69, R70) -/

theorem exec_decode (s : State) : exec .decode s = .next (perform (decodeActions s) s) := rfl

/-- DECODE of an index of 0 or more takes nothing from the environment. -/
theorem exec_decode_packs {s : State} (h : 0 ≤ idPacked s.par (idRaw s.par s.width)) :
    exec .decode s = .next { s with
      id := BitVec.ofInt 16 (idRaw s.par s.width),
      cfg := pack (idPacked s.par (idRaw s.par s.width)).toNat,
      phase := .apply } := by
  simp only [exec_decode, decodeActions, perform_cons, perform_nil, writeCfg, if_pos h]
  rfl

/-- DECODE of a negative index takes one draw. -/
theorem exec_decode_draws {s : State} (h : idPacked s.par (idRaw s.par s.width) < 0) :
    exec .decode s = .next { s with
      id := BitVec.ofInt 16 (idRaw s.par s.width),
      cfg := s.drawAnswer,
      env := { s.env with draw := s.env.draw.advance },
      phase := .apply } := by
  simp only [exec_decode, decodeActions, perform_cons, perform_nil, writeCfg, if_neg h.not_ge]
  rfl

/-- Under the clamp no index is negative (R67). -/
theorem exec_decode_of_clamp {s : State} (h : s.par.clampId = true) :
    exec .decode s = .next { s with
      id := BitVec.ofInt 16 (idRaw s.par s.width),
      cfg := pack (clamp (idRaw s.par s.width) 0 47).toNat,
      phase := .apply } := by
  have hpacked := idPacked_of_clamp h (idRaw s.par s.width)
  rw [exec_decode_packs (by rw [hpacked]; exact (clamp_range _).1), hpacked]

/-- Settles O25: the formula written out is the one DECODE evaluates. -/
theorem decodeClampsAndPacks : Obligations.DecodeClampsAndPacks := by
  intro s d span idx idc hclamp hd hspan hidx hidc
  have hden : d = denominator s.par := by
    rw [hd, denominator]
    cases s.par.filterMode <;> rfl
  have hraw : idx = idRaw s.par s.width := by rw [hidx, hspan, hden]; rfl
  have hpacked : idc = clamp (idRaw s.par s.width) 0 47 := by rw [hidc, hraw]; rfl
  rw [exec_decode_of_clamp hclamp, hraw, hpacked]
  rfl

/-- Settles O26, by the sign of the index. -/
theorem decodeUnclamped : Obligations.DecodeUnclamped := by
  intro s hclamp
  have hpacked := idPacked_of_noClamp hclamp (idRaw s.par s.width)
  constructor
  · intro h
    rw [exec_decode_packs (by rwa [hpacked]), hpacked]
    rfl
  · intro h
    exact exec_decode_draws (by rwa [hpacked])

/-- Settles O31: what DECODE writes names only `WIDTH` and the parameters. -/
theorem decodeIsPure : Obligations.DecodeIsPure := by
  intro s t hpar hclamp hwidth
  have hclamp' : t.par.clampId = true := by rwa [← hpar]
  refine ⟨_, _, exec_decode_of_clamp hclamp, exec_decode_of_clamp hclamp', ?_, ?_⟩ <;>
    simp only [hpar, hwidth]

end Sys2Proof.Machine
end

section
/-!
PROOF of O32 to O36. TURN is one change of light with its event and level (R86), BLINK_DRIVE is a TURN (R87), and a
timer is evaluated by the wrap-safe comparison of two readings (R88, R89, R109).
-/

namespace Sys2Proof.Machine

/-! ### TURN and BLINK_DRIVE -/

theorem levelsFollow_refl (s : State) : levelsFollow s s := fun _ => by rw [if_pos rfl]

theorem levelsFollow.blinkEval {s t : State} (h : levelsFollow s t) (e : Channel) :
    levelsFollow s (blinkEval e t) := h

theorem turned_turn (c : Channel) (v : LightState) (s : State) : turned c v s (turn c v s) :=
  ⟨fun _ => by rw [turn_ls, ChannelFile.get_set], turn_ev c v s, (levelsFollow_refl s).turn rfl v,
    turn_onlyLights c v s⟩

/-- Settles O32: after a TURN the channel is in the target state, so a second one finds nothing to change. -/
theorem turnWritesOnlyOnChange : Obligations.TurnWritesOnlyOnChange := fun c v s =>
  ⟨turned_turn c v s, turn_of_eq (by simp)⟩

/-- Settles O33: BLINK_DRIVE is a TURN. -/
theorem blinkDriveFollowsThePhase : Obligations.BlinkDriveFollowsThePhase := by
  intro c p s
  rw [blinkDrive_eq_turn]
  exact turned_turn c _ s

/-! ### The evaluation of a timer -/

theorem BlinkTimer.eval_of_reached {interval now : Time} {t : BlinkTimer} (h : reached now t.nextToggle = true) :
    t.eval interval now = ⟨now + interval, !t.phaseOn⟩ := if_pos h

theorem BlinkTimer.eval_of_not_reached {interval now : Time} {t : BlinkTimer}
    (h : reached now t.nextToggle = false) : t.eval interval now = t := if_neg (by simp [h])

/-- An evaluation leaves the timer as it is exactly when its deadline is not reached: a reached one flips the phase. -/
theorem BlinkTimer.eval_eq_self_iff (interval now : Time) (t : BlinkTimer) :
    t.eval interval now = t ↔ reached now t.nextToggle = false := by
  cases h : reached now t.nextToggle with
  | false => simp [eval_of_not_reached h]
  | true => simp [eval_of_reached h, BlinkTimer.ext_iff]

theorem blinkEval_of_not_reached {c : Channel} {s : State}
    (h : reached s.clockAnswer (s.bt.get c).nextToggle = false) : blinkEval c s = tookClock s := by
  have hsame : setTimer c (s.bt.get c) s = s := by rw [setTimer, ChannelFile.set_get]
  rw [blinkEval, BlinkTimer.eval_of_not_reached h]
  exact congrArg tookClock hsame

/-- Settles O34: the two branches of the evaluation. -/
theorem timerEvaluation : Obligations.TimerEvaluation := by
  refine fun c s => ⟨fun h => ?_, blinkEval_of_not_reached⟩
  rw [blinkEval, BlinkTimer.eval_of_reached h]
  rfl

/-! ### The comparison of two readings (R89) -/

theorem reached_iff (now d : Time) : reached now d = true ↔ (now - d).toNat < 2 ^ 31 := by
  rw [reached, decide_eq_true_iff]
  rfl

/-- Settles O35: modulo the clock's range, a difference behind by less than half of it is below half, and one ahead by
at most half is not. -/
theorem reachedIsWrapSafe : Obligations.ReachedIsWrapSafe := by
  refine ⟨reached_iff, fun now d hnow hd => ?_⟩
  rw [reached_iff, BitVec.toNat_sub, BitVec.toNat_ofNat, BitVec.toNat_ofNat]
  omega

/-- A deadline one interval past a reading: a later reading of CLK-MONO reaches it once the interval has gone by. -/
theorem reached_add_iff {a b i : Time} (hmono : reached b a = true) (hi : i.toNat < 2147483648) :
    reached b (a + i) = true ↔ i.toNat ≤ (b - a).toNat := by
  rw [reached_iff] at hmono
  have hdist : (b - (a + i)).toNat = (2 ^ 32 - i.toNat + (b - a).toNat) % 2 ^ 32 := by
    rw [← BitVec.toNat_sub, BitVec.sub_sub]
  rw [reached_iff, hdist]
  omega

/-- Settles O36: the first evaluation moves the deadline one interval past its reading. -/
theorem noToggleBeforeTheInterval : Obligations.NoToggleBeforeTheInterval := by
  intro p a b t hreached hmono
  have hba : reached b a = true := by simpa [clkMono] using hmono
  obtain ⟨-, -, -, -, hinterval⟩ := params_bounds p
  rw [BlinkTimer.eval_eq_self_iff, BlinkTimer.eval_of_reached hreached, ← Bool.not_eq_true,
    reached_add_iff hba hinterval, not_le]

end Sys2Proof.Machine
end

section
/-!
PROOF of O37 to O40 and O43. Each sub-operation of the first three slots is one TURN (R76 to R83); the Blinkers slot
drives the two blinkers by TURNs (R90, R93).
-/

namespace Sys2Proof.Machine

/-! ### FrontWhite, Stop and Reverse -/

/-- Settles O37: each sub-operation is its TURN, and the slot examines bits 4 and 5. -/
theorem frontWhiteSubOperations : Obligations.FrontWhiteSubOperations := fun s =>
  ⟨⟨_, rfl, turned_turn .frontWhite .high s⟩, ⟨_, rfl, turned_turn .frontWhite .on s⟩,
    ⟨_, rfl, turned_turn .frontWhite .off s⟩, decodeSlot_frontWhite⟩

/-- Settles O38: each sub-operation is its TURN, and the slot examines bits 0 and 5. -/
theorem stopSubOperations : Obligations.StopSubOperations := fun s =>
  ⟨⟨_, rfl, turned_turn .stop .high s⟩, ⟨_, rfl, turned_turn .stop .on s⟩, ⟨_, rfl, turned_turn .stop .off s⟩,
    decodeSlot_stop⟩

/-- Settles O39: each sub-operation is its TURN, and the slot examines bit 1. -/
theorem reverseSubOperations : Obligations.ReverseSubOperations := fun s =>
  ⟨⟨_, rfl, turned_turn .reverse .on s⟩, ⟨_, rfl, turned_turn .reverse .off s⟩, decodeSlot_reverse⟩

/-! ### BLINK.NONE and BLINK.HAZARD -/

/-- TURNs of both blinkers, left first, from a state with the lights and the trace of `s` (R86). -/
theorem turn_both {s b t : State} (hls : b.ls = s.ls) (hev : b.ev = s.ev) (hlevels : levelsFollow s b)
    {l r : LightState} (ht : t = turn .right r (turn .left l b)) :
    t.ls = { s.ls with left := l, right := r } ∧
    t.ev = s.ev ++ turnEvents .left s.ls.left l ++ turnEvents .right s.ls.right r ∧
    levelsFollow s t := by
  subst ht
  refine ⟨?_, ?_, ?_⟩
  · rw [turn_ls, turn_ls, hls]
    rfl
  · rw [turn_ev, turn_ev, turn_ls, hls, hev]
    rfl
  · exact (hlevels.turn (by rw [hls]) l).turn (by rw [turn_ls, hls]; rfl) r

theorem decodeSlot_eq_blinkNone_iff (w : CfgWord) : decodeSlot .blinkers w = .blinkNone ↔ cfgBlink w = 0 := by
  rw [decodeSlot_blinkers]
  generalize cfgBlink w = b
  revert b
  decide

theorem decodeSlot_eq_blinkHazard_iff (w : CfgWord) : decodeSlot .blinkers w = .blinkHazard ↔ cfgBlink w = 3 := by
  rw [decodeSlot_blinkers]
  generalize cfgBlink w = b
  revert b
  decide

/-- Settles O40: BLINK.NONE is the two TURNs. -/
theorem blinkNoneTurnsBothOff : Obligations.BlinkNoneTurnsBothOff := by
  refine ⟨fun s => ?_, decodeSlot_eq_blinkNone_iff⟩
  obtain ⟨hls, hev, hlevels⟩ := turn_both (l := .off) (r := .off) rfl rfl (levelsFollow_refl s) rfl
  refine ⟨_, rfl, fun c => ?_, hev, hlevels, (turn_onlyLights _ _ s).trans (turn_onlyLights _ _ _)⟩
  have hget := congrArg (·.get c) hls
  cases c <;> exact hget

/-- A timer evaluation reads no light and a TURN reads neither timer nor clock, so their order does not matter. -/
theorem blinkEval_turn (e c : Channel) (v : LightState) (s : State) :
    blinkEval e (turn c v s) = turn c v (blinkEval e s) := by
  by_cases h : s.ls.get c = v
  · rw [turn_of_eq h, turn_of_eq (by exact h)]
  · rw [turn_of_ne h, turn_of_ne (by exact h)]
    rfl

/-- Under `shared`: one evaluation, and a TURN of each blinker by its phase (R93). -/
theorem perform_blinkHazardActions_shared (s : State) {tm : BlinkTimer}
    (htm : tm = (s.bt.get .frontWhite).eval s.par.blinkInterval s.clockAnswer) :
    perform (blinkHazardActions .shared) s =
      turn .right (driven tm.phaseOn s.ls.right)
        (turn .left (driven tm.phaseOn s.ls.left) (blinkEval .frontWhite s)) := by
  have hls : s.ls.right = s.ls.get .right ∧ s.ls.left = s.ls.get .left := ⟨rfl, rfl⟩
  simp [blinkHazardActions, driveBy_eq_turn, htm, ChannelFile.get_set, hls]

/-- Under `per_channel`: two evaluations, each at a reading of its own, and a TURN of each blinker by its own phase
(R93). -/
theorem perform_blinkHazardActions_perChannel (s : State) {tl tr : BlinkTimer}
    (hl : tl = (s.bt.get .left).eval s.par.blinkInterval s.clockAnswer)
    (hr : tr = (s.bt.get .right).eval s.par.blinkInterval (tookClock s).clockAnswer) :
    perform (blinkHazardActions .perChannel) s =
      turn .right (driven tr.phaseOn s.ls.right)
        (turn .left (driven tl.phaseOn s.ls.left) (blinkEval .right (blinkEval .left s))) := by
  have hls : s.ls.right = s.ls.get .right ∧ s.ls.left = s.ls.get .left := ⟨rfl, rfl⟩
  rw [blinkHazardActions, perform_append, perform_blinkActions, perform_blinkActions]
  simp [tsel, hl, hr, ChannelFile.get_set, State.clockAnswer, blinkEval_turn, hls]

/-- Settles O43: in either timer mode, the evaluations and then the two TURNs. -/
theorem hazardFollowsTheTimerMode : Obligations.HazardFollowsTheTimerMode := by
  refine ⟨fun s tm hmode htm => ?_, fun s tl tr hmode hl hr => ?_, decodeSlot_eq_blinkHazard_iff⟩
  · have ht := perform_blinkHazardActions_shared s htm
    rw [← hmode] at ht
    obtain ⟨hls, hev, hlevels⟩ := turn_both (blinkEval_ls _ s) (blinkEval_ev _ s)
      ((levelsFollow_refl s).blinkEval .frontWhite) ht
    refine ⟨_, rfl, ?_, hls, hev, ?_, hlevels, LightRun.refl.blinkHazard.onlyBlink⟩
    · rw [ht, turn_bt, turn_bt, htm]
      rfl
    · rw [ht, turn_env, turn_env]
      rfl
  · have ht := perform_blinkHazardActions_perChannel s hl hr
    rw [← hmode] at ht
    obtain ⟨hls, hev, hlevels⟩ := turn_both (s := s) (b := blinkEval .right (blinkEval .left s))
      (by rw [blinkEval_ls, blinkEval_ls]) (by rw [blinkEval_ev, blinkEval_ev])
      (((levelsFollow_refl s).blinkEval .left).blinkEval .right) ht
    refine ⟨_, rfl, ?_, hls, hev, ?_, hlevels, LightRun.refl.blinkHazard.onlyBlink⟩
    · rw [ht, turn_bt, turn_bt, hl, hr]
      rfl
    · rw [ht, turn_env, turn_env]
      rfl

end Sys2Proof.Machine
end

section
/-!
PROOF of O45. APPLY is one TURN of each channel but FrontBlue, in one of two orders, so it makes at most one level write
a channel (R74, R84, R94 (a)).
-/

namespace Sys2Proof.Machine

/-- From `s` to `t` the trace has grown by level writes alone, no more of them to a channel than the list names it. -/
def AppendsWrites (cs : List Channel) (s t : State) : Prop :=
  ∃ l : List Event, t.ev = s.ev ++ l ∧ (∀ e ∈ l, e.isLevelWrite = true) ∧ l.length ≤ cs.length ∧
    ∀ c : Channel, (l.filter (Event.writesTo c)).length ≤ cs.count c

theorem appendsWrites_nil (s : State) : AppendsWrites [] s s := ⟨[], by simp⟩

theorem AppendsWrites.eval {cs : List Channel} {s t : State} (h : AppendsWrites cs s t) (e : Channel) :
    AppendsWrites cs s (blinkEval e t) := by
  unfold AppendsWrites
  rw [blinkEval_ev]
  exact h

/-- The list's order does not count. -/
theorem AppendsWrites.perm {cs ds : List Channel} {s t : State} (h : AppendsWrites cs s t) (hp : cs.Perm ds) :
    AppendsWrites ds s t := by
  obtain ⟨l, hev, hlevel, hlength, hcount⟩ := h
  exact ⟨l, hev, hlevel, hp.length_eq ▸ hlength, fun c => hp.count_eq c ▸ hcount c⟩

/-- A TURN adds at most one level write, to its channel (R86). -/
theorem AppendsWrites.turn {cs : List Channel} {s t : State} (h : AppendsWrites cs s t) (c : Channel)
    (v : LightState) : AppendsWrites (c :: cs) s (turn c v t) := by
  obtain ⟨l, hev, hlevel, hlength, hcount⟩ := h
  refine ⟨l ++ turnEvents c (t.ls.get c) v, by rw [turn_ev, hev, List.append_assoc], ?_⟩
  unfold turnEvents
  split
  · simp only [List.append_nil]
    exact ⟨hlevel, Nat.le_succ_of_le hlength, fun d => (hcount d).trans List.count_le_count_cons⟩
  · refine ⟨by simpa [Event.isLevelWrite, or_imp, forall_and] using hlevel, by simpa using hlength, fun d => ?_⟩
    have hd := hcount d
    by_cases hcd : c = d <;> simp [Event.writesTo, List.filter_append, hcd] <;> omega

theorem AppendsWrites.blinkActions {cs : List Channel} {s t : State} (h : AppendsWrites cs s t) (mode : TimerMode)
    (c : Channel) : AppendsWrites (c :: cs) s (perform (blinkActions mode c) t) := by
  rw [perform_blinkActions]
  exact (h.eval _).turn c _

/-- The Blinkers slot is, timers aside, one TURN of each blinker (R90 to R93). -/
theorem AppendsWrites.blinkers {cs : List Channel} {s t : State} (h : AppendsWrites cs s t) (w : CfgWord)
    (mode : TimerMode) : AppendsWrites (.right :: .left :: cs) s (perform (blinkersActions w mode) t) := by
  unfold blinkersActions
  split_ifs
  · exact (h.turn .left _).turn .right _
  · rw [blinkLeftActions, perform_append]
    exact (h.blinkActions mode .left).turn .right _
  · rw [blinkRightActions, perform_append]
    exact ((h.blinkActions mode .right).turn .left _).perm (.swap _ _ _)
  · cases mode with
    | shared =>
      rw [perform_blinkHazardActions_shared t rfl]
      exact ((h.eval _).turn .left _).turn .right _
    | perChannel =>
      rw [blinkHazardActions, perform_append]
      exact (h.blinkActions _ .left).blinkActions _ .right

theorem slotActions_appendsWrites (w : CfgWord) (mode : TimerMode) (s : State) :
    AppendsWrites [.right, .left, .reverse, .stop, .frontWhite] s (perform (slotActions w mode) s) := by
  rw [slotActions, perform_append]
  simp only [perform_cons, perform_nil, applyFrontWhite_eq, applyStop_eq, applyReverse_eq]
  exact ((((appendsWrites_nil s).turn _ _).turn _ _).turn _ _).blinkers w mode

theorem exec_apply (s : State) :
    exec .apply s = .next (goto .sample (perform (slotActions s.cfg s.par.timerMode) s)) := by
  rw [exec, execApply, applyActions, perform_append]
  rfl

/-- Settles O45: the five channels of APPLY are distinct, and FrontBlue is none of them. -/
theorem applyWritesEachChannelAtMostOnce : Obligations.ApplyWritesEachChannelAtMostOnce := by
  intro s
  have hrun := slotActions_lightRun s.cfg s
  obtain ⟨l, hev, hlevel, hlength, hcount⟩ := slotActions_appendsWrites s.cfg s.par.timerMode s
  have hdistinct : ∀ c : Channel, [Channel.right, .left, .reverse, .stop, .frontWhite].count c ≤ 1 :=
    fun c => by cases c <;> decide
  exact ⟨_, l, exec_apply s, hev, hlevel, hlength, fun c => (hcount c).trans (hdistinct c),
    Nat.le_zero.1 (hcount .frontBlue), hrun.frontBlue⟩

end Sys2Proof.Machine
end

section
/-!
PROOF of O46 and O47. APPLY leaves each of its channels in the state that its slot asks for, the blinkers by the phases
of their timers (R76 to R93); from such a state, and while no timer is reached, APPLY has nothing to do (R94 (a)).
-/

namespace Sys2Proof.Machine

/-! ### The state a slot asks for -/

/-- On or Off, by the phase of the channel's timer (R85, R87). -/
def blinkLight (s : State) (c : Channel) : LightState :=
  if (s.bt.get (tsel s.par.timerMode c)).phaseOn = true then .on else .off

/-- The state the slots of APPLY ask of each channel, by the configuration word and the timers (R76 to R83, R90 to
R93). -/
def slotLight (s : State) : Channel → LightState
  | .frontWhite => if cfgHighBeam s.cfg then .high else if cfgDayNight s.cfg then .on else .off
  | .frontBlue => s.ls.frontBlue
  | .left => if cfgBlink s.cfg = 1 ∨ cfgBlink s.cfg = 3 then blinkLight s .left else .off
  | .right => if cfgBlink s.cfg = 2 ∨ cfgBlink s.cfg = 3 then blinkLight s .right else .off
  | .stop => if cfgBrake s.cfg then .high else if cfgDayNight s.cfg then .on else .off
  | .reverse => if cfgReverse s.cfg then .on else .off

/-- Every channel is in the state its slot asks for. -/
def Settled (s : State) : Prop := ∀ c : Channel, s.ls.get c = slotLight s c

/-- Neither the phase nor the environment's answers count. -/
theorem Settled.congr {s : State} (h : Settled s) (p : Phase) (e : Env) : Settled { s with phase := p, env := e } :=
  fun c => (h c).trans (by cases c <;> rfl)

theorem cfgBlink_eq_three {w : CfgWord} (h0 : cfgBlink w ≠ 0) (h1 : cfgBlink w ≠ 1) (h2 : cfgBlink w ≠ 2) :
    cfgBlink w = 3 := by
  generalize cfgBlink w = b at *
  revert b
  decide

/-! ### APPLY as its steady slots and the Blinkers slot -/

/-- What the first three slots do: a TURN of each channel to the state its slot asks for. -/
def applySteady (s : State) : State :=
  turn .reverse (slotLight s .reverse) (turn .stop (slotLight s .stop) (turn .frontWhite (slotLight s .frontWhite) s))

/-- APPLY is its first three slots and then the Blinkers slot, whose word and timer mode they leave (R74). -/
theorem perform_slotActions (s : State) : perform (slotActions s.cfg s.par.timerMode) s =
    perform (blinkersActions (applySteady s).cfg (applySteady s).par.timerMode) (applySteady s) := by
  have hcfg : (applySteady s).cfg = s.cfg := by simp [applySteady]
  have hpar : (applySteady s).par = s.par := by simp [applySteady]
  rw [slotActions, perform_append, hcfg, hpar]
  simp only [perform_cons, perform_nil, applyFrontWhite_eq, applyStop_eq, applyReverse_eq]
  rfl

/-! ### APPLY settles the lights -/

theorem set_right_set_left (f : ChannelFile LightState) (l r : LightState) :
    (f.set .right r).set .left l = (f.set .left l).set .right r := rfl

/-- The Blinkers slot sets the two blinkers, and no other light, to what it asks for by the timers it leaves. -/
theorem perform_blinkersActions_ls {s t : State} (hl : s.ls.left ≠ .high) (hr : s.ls.right ≠ .high)
    (ht : t = perform (blinkersActions s.cfg s.par.timerMode) s) :
    t.ls = { s.ls with left := slotLight t .left, right := slotLight t .right } := by
  have hleft : s.ls.get .left ≠ .high := hl
  have hright : s.ls.get .right ≠ .high := hr
  suffices hset : t.ls = (s.ls.set .left (slotLight t .left)).set .right (slotLight t .right) from hset
  subst ht
  unfold blinkersActions
  split_ifs with h0 h1 h2
  · simp [blinkNoneActions, slotLight, h0]
  · rw [blinkLeftActions, perform_append, perform_blinkActions, driven_of_ne_high hleft]
    simp [slotLight, blinkLight, h1]
  · rw [blinkRightActions, perform_append, perform_blinkActions, driven_of_ne_high hright]
    simp [slotLight, blinkLight, h2, set_right_set_left]
  · have h3 := cfgBlink_eq_three h0 h1 h2
    cases hm : s.par.timerMode with
    | shared =>
      rw [perform_blinkHazardActions_shared s rfl, driven_of_ne_high hl, driven_of_ne_high hr]
      simp [slotLight, blinkLight, h3, hm, tsel]
    | perChannel =>
      have hclock : (blinkEval .left s).clockAnswer = (tookClock s).clockAnswer := rfl
      rw [perform_blinkHazardActions_perChannel s rfl rfl, driven_of_ne_high hl, driven_of_ne_high hr]
      simp [slotLight, blinkLight, h3, hm, tsel, ChannelFile.get_set, hclock]

/-- APPLY leaves every channel in the state its slot asks for. -/
theorem slotActions_settled {s t : State} (hl : s.ls.left ≠ .high) (hr : s.ls.right ≠ .high)
    (ht : t = perform (slotActions s.cfg s.par.timerMode) s) : Settled t := by
  have hcfg : t.cfg = s.cfg := by rw [ht, (slotActions_lightRun s.cfg s).frame]
  have hsteady : (applySteady s).ls = { s.ls with
      frontWhite := slotLight s .frontWhite, stop := slotLight s .stop, reverse := slotLight s .reverse } := by
    simp [applySteady, ChannelFile.set]
  rw [perform_slotActions] at ht
  have hls := perform_blinkersActions_ls (by rwa [hsteady]) (by rwa [hsteady]) ht
  rw [hsteady] at hls
  intro c
  cases c with
  | frontBlue => rfl
  | left => exact congrArg (·.left) hls
  | right => exact congrArg (·.right) hls
  | frontWhite | stop | reverse =>
    rw [hls]
    simp only [slotLight, hcfg]
    rfl

/-! ### APPLY of settled lights -/

/-- `t` differs from `s` in nothing but the clock readings taken. -/
def onlyClock (s t : State) : Prop := t = { s with env := { s.env with now := t.env.now } }

theorem driven_blinkLight (s : State) (c : Channel) :
    driven (s.bt.get (tsel s.par.timerMode c)).phaseOn (blinkLight s c) = blinkLight s c := by
  unfold blinkLight
  cases (s.bt.get (tsel s.par.timerMode c)).phaseOn <;> rfl

theorem driveBy_of_settled {s : State} {c e : Channel} (he : e = tsel s.par.timerMode c)
    (h : s.ls.get c = blinkLight s c) : driveBy c e s = s := by
  rw [driveBy_eq_turn, he]
  exact turn_of_eq (by rw [h, driven_blinkLight])

theorem blinkEval_of_staysAt {s : State} {e : Channel} (h : staysAt s e s.clockAnswer = true) :
    blinkEval e s = tookClock s := blinkEval_of_not_reached (by simpa [staysAt] using h)

/-- BLINK(c) of a channel that its unreached timer agrees with takes a reading and does nothing else. -/
theorem perform_blinkActions_of_settled {s : State} {c : Channel} (h : s.ls.get c = blinkLight s c)
    (hstay : staysAt s (tsel s.par.timerMode c) s.clockAnswer = true) :
    perform (blinkActions s.par.timerMode c) s = tookClock s := by
  rw [blinkActions, perform_cons, blinkEval_of_staysAt hstay]
  exact driveBy_of_settled (s := tookClock s) rfl h

/-- BLINK.HAZARD of settled lights, while no timer is reached, takes its readings and does nothing else. -/
theorem perform_blinkHazardActions_of_settled {s : State} (h : Settled s) (hstay : noToggle s = true)
    (h3 : cfgBlink s.cfg = 3) : onlyClock s (perform (blinkHazardActions s.par.timerMode) s) := by
  have hl : s.ls.get .left = blinkLight s .left := by simpa [slotLight, h3] using h .left
  have hr : s.ls.get .right = blinkLight s .right := by simpa [slotLight, h3] using h .right
  cases hm : s.par.timerMode with
  | shared =>
    have hfirst : staysAt s .frontWhite s.clockAnswer = true := by simpa [noToggle, h3, hm] using hstay
    have htsel (c : Channel) : .frontWhite = tsel (tookClock s).par.timerMode c := by rw [tookClock_par, hm]; rfl
    rw [blinkHazardActions, perform_cons, blinkEval_of_staysAt hfirst, perform_cons, driveBy_of_settled (htsel _) hl,
      perform_cons, driveBy_of_settled (htsel _) hr]
    rfl
  | perChannel =>
    obtain ⟨hfirst, hsecond⟩ : staysAt s .left s.clockAnswer = true ∧
        staysAt s .right (tookClock s).clockAnswer = true := by
      simpa [noToggle, h3, hm] using hstay
    have hleft := perform_blinkActions_of_settled hl (by rw [hm]; exact hfirst)
    have hright := perform_blinkActions_of_settled (s := tookClock s) hr (by rw [tookClock_par, hm]; exact hsecond)
    rw [tookClock_par] at hright
    rw [blinkHazardActions, perform_append, ← hm, hleft, hright]
    rfl

/-- The Blinkers slot, with settled lights and no timer reached, takes its readings and does nothing else. -/
theorem perform_blinkersActions_of_settled {s : State} (h : Settled s) (hstay : noToggle s = true) :
    onlyClock s (perform (blinkersActions s.cfg s.par.timerMode) s) := by
  unfold blinkersActions
  split_ifs with h0 h1 h2
  · have hl : s.ls.get .left = .off := by simpa [slotLight, h0] using h .left
    have hr : s.ls.get .right = .off := by simpa [slotLight, h0] using h .right
    rw [blinkNoneActions, perform_cons, turn_of_eq hl, perform_cons, turn_of_eq hr]
    rfl
  · have hleft : staysAt s (tsel s.par.timerMode .left) s.clockAnswer = true := by simpa [noToggle, h1] using hstay
    have hl : s.ls.get .left = blinkLight s .left := by simpa [slotLight, h1] using h .left
    have hr : s.ls.get .right = .off := by simpa [slotLight, h1] using h .right
    rw [blinkLeftActions, perform_append, perform_blinkActions_of_settled hl hleft, perform_cons,
      turn_of_eq (s := tookClock s) hr]
    rfl
  · have hright : staysAt s (tsel s.par.timerMode .right) s.clockAnswer = true := by simpa [noToggle, h2] using hstay
    have hl : s.ls.get .left = .off := by simpa [slotLight, h2] using h .left
    have hr : s.ls.get .right = blinkLight s .right := by simpa [slotLight, h2] using h .right
    rw [blinkRightActions, perform_append, perform_blinkActions_of_settled hr hright, perform_cons,
      turn_of_eq (s := tookClock s) hl]
    rfl
  · exact perform_blinkHazardActions_of_settled h hstay (cfgBlink_eq_three h0 h1 h2)

theorem applySteady_of_settled {s : State} (h : Settled s) : applySteady s = s := by
  rw [applySteady, turn_of_eq (h .frontWhite), turn_of_eq (h .stop), turn_of_eq (h .reverse)]

/-! ### The statements -/

/-- Settles O46: the first APPLY settles the lights, and from settled lights the second one only reads the clock. -/
theorem secondApplyIsSilent : Obligations.SecondApplyIsSilent := by
  intro s t e hl hr hexec hstay
  rw [exec_apply] at hexec
  injection hexec with ht
  have hsettled : Settled { t with env := e } := by
    rw [← ht]
    exact (slotActions_settled hl hr rfl).congr .sample e
  have hsilent := perform_blinkersActions_of_settled hsettled hstay
  refine ⟨_, exec_apply _, ?_⟩
  rw [perform_slotActions, applySteady_of_settled hsettled, hsilent]
  exact ⟨rfl, rfl, rfl⟩

/-- Settles O47: under `shared` both blinkers ask for the state of one timer. -/
theorem hazardBlinkersStaySynchronous : Obligations.HazardBlinkersStaySynchronous := by
  intro s hm hblink hl hr
  have hframe := (slotActions_lightRun s.cfg s).frame
  have hsettled := slotActions_settled hl hr rfl
  refine ⟨_, exec_apply s, ?_⟩
  generalize perform (slotActions s.cfg s.par.timerMode) s = t at hframe hsettled
  have hlight (c : Channel) : blinkLight t c = if t.bt.frontWhite.phaseOn = true then .on else .off := by
    rw [blinkLight, hframe, hm]
    rfl
  have hleft : t.ls.left = blinkLight t .left := (hsettled .left).trans (if_pos (.inr (by rw [hframe]; exact hblink)))
  have hright : t.ls.right = blinkLight t .right :=
    (hsettled .right).trans (if_pos (.inr (by rw [hframe]; exact hblink)))
  rw [goto_ls, goto_bt, hleft, hright, hlight, hlight]
  exact ⟨rfl, rfl⟩

end Sys2Proof.Machine
end

section
/-!
PROOF of O12 to O15 and O54. The transition table of the sequencer (R95) as one function of the phase and the capability
answer, INIT's two outcomes (R96, R102), and runs during which `rst` stays deasserted (R97, R100).
-/

namespace Sys2Proof.Machine

/-! ### The transition table (R95) -/

/-- The phase that follows a phase; only INIT's successor depends on the capability answer (R95, R102). -/
def nextPhase (r : CapWord) : Phase → Phase
  | .init => if r = 0 then .sample else .halt
  | .sample => .filter
  | .filter => .decode
  | .decode => .apply
  | .apply => .sample
  | .halt => .halt

theorem perform_initActions_phase (s : State) :
    (perform (initActions s) s).phase = if s.capAnswer = 0 then .sample else .halt := by
  split
  · next hc => rw [perform_initActions_pass s hc, goto_phase]
  · next hc => rw [perform_initActions_fail s hc, raiseFatal_phase]

/-- The operation a phase names, where it completes, leads to the table's next phase. -/
theorem phase_of_exec_phaseInstr {s t : State} {mode : FilterMode} {p : Phase} (hp : s.phase = p)
    (h : exec (phaseInstr mode p) s = .next t) : t.phase = nextPhase s.capAnswer p := by
  cases p with
  | init => cases h; exact perform_initActions_phase s
  | sample => cases h; rw [perform_sampleActions]; rfl
  | filter =>
    cases mode with
    | consensus => obtain ⟨-, rfl⟩ := exec_filterCs_eq_next.1 h; rfl
    | movingAverage => obtain ⟨-, rfl⟩ := exec_filterMa_eq_next.1 h; rfl
  | decode =>
    cases h
    obtain ⟨_, _, hframe, -⟩ := perform_decodeActions s
    rw [hframe]; rfl
  | apply =>
    rw [phaseInstr, exec_apply] at h
    cases h; rfl
  | halt => cases h; exact hp

/-- A step without reset completes, keeps the invariant and follows the table. -/
theorem State.Inv.step_of_noRst {s : State} (h : s.Inv) (hr : s.rstAnswer = none) :
    ∃ t : State, step s = .next t ∧ t.Inv ∧ t.phase = nextPhase s.capAnswer s.phase := by
  obtain ⟨t, hexec, ht⟩ := h.fetched.exec_phaseInstr
  exact ⟨t, (step_of_noIssue hr h.noIssue).trans hexec, ht, phase_of_exec_phaseInstr (s := Machine.fetched s) rfl hexec⟩

/-- Settles O12: the table written out is `nextPhase`. -/
theorem stepFollowsTheTransitionTable : Obligations.StepFollowsTheTransitionTable := by
  intro s h hr
  obtain ⟨t, hstep, -, hphase⟩ := h.step_of_noRst hr
  exact ⟨t, hstep, hphase⟩

/-! ### INIT (R96, R102) -/

theorem exec_init_pass {s : State} (hc : s.capAnswer = 0) :
    exec .init s = .next (goto .sample (turn .frontBlue .on (perform enableActions (tookCap s)))) :=
  congrArg _ (perform_initActions_pass s hc)

theorem exec_init_fail {s : State} (hc : s.capAnswer ≠ 0) :
    exec .init s = .next (raiseFatal s.capAnswer (tookCap s)) :=
  congrArg _ (perform_initActions_fail s hc)

/-- Settles O13: six enables in one update, then the TURN of FrontBlue. -/
theorem initStartsTheBlock : Obligations.InitStartsTheBlock := by
  intro s hc
  have henabled : levelsFollow s (perform enableActions (tookCap s)) := by
    rw [perform_enableActions]
    exact levelsFollow_refl s
  have hlevels := henabled.turn (c := .frontBlue) (by rw [perform_enableActions]; rfl) .on
  refine ⟨_, exec_init_pass hc, rfl, ?_⟩
  rw [perform_enableActions] at hlevels ⊢
  refine ⟨fun d => ?_, ?_, fun d => ?_, hlevels, ?_⟩
  · rw [goto_ls, turn_ls, ChannelFile.get_set]; rfl
  · rw [goto_ev, turn_ev]; rfl
  · rw [goto_dev, turn_dev_enabled, ChannelFile.get_all]
  · rw [turn_onlyLights .frontBlue .on]; rfl

/-- Settles O14: the exception is raised where the capability answer has been taken and nothing else done. -/
theorem initTakesTheFatalMismatch : Obligations.InitTakesTheFatalMismatch := fun _ hc => exec_init_fail hc

/-! ### Runs without reset -/

theorem quietRst.congr {k : Nat} {s t : State} (h : quietRst k s) (hrst : t.env.rst = s.env.rst) : quietRst k t := by
  unfold quietRst at *
  rw [hrst]
  exact h

/-- One quiet step more is a step without reset and then the others, after its `rst` sample. -/
theorem quietRst_succ {k : Nat} {s : State} (h : quietRst (k + 1) s) : s.rstAnswer = none ∧ quietRst k (fetched s) := by
  unfold quietRst State.rstAnswer Stream.next at *
  rw [fetched_env, Stream.advance]
  cases hans : s.env.rst.answers with
  | nil => simp [hans] at h
  | cons r rs => simpa [hans, List.replicate_succ] using h

/-- Only the fetch samples `rst`: no action of an operation does (R116). -/
theorem Primitive.keeps_rst {a : Action} (h : Primitive a) (s : State) : (a s).env.rst = s.env.rst := by
  cases h with
  | filterCs =>
    obtain ⟨-, -, henv⟩ := filterCs_ev_dev_env s
    rw [henv]
  | turn => rw [turn_env]
  | driveBy => rw [driveBy_eq_turn, turn_env]
  | waitPeriod => unfold Machine.waitPeriod; split <;> rfl
  | writeCfg => unfold Machine.writeCfg; split <;> rfl
  | _ => rfl

theorem exec_keeps_rst {i : Instr} {s t : State} (h : exec i s = .next t) : t.env.rst = s.env.rst := by
  obtain ⟨hactions, -⟩ := actionsMakeUpTheOperation
  rw [← hactions i s t h]
  exact perform_keeps (r := fun u v => v.env.rst = u.env.rst) (fun _ => rfl) (fun _ _ _ huv hvw => hvw.trans huv)
    (fun a ha => (primitive_actions i s a ha).keeps_rst) s

/-- The first of some quiet steps: as `State.Inv.step_of_noRst` says, and the others are still quiet. -/
theorem State.Inv.step_of_quietRst {s : State} (h : s.Inv) {k : Nat} (hq : quietRst (k + 1) s) :
    ∃ t : State, step s = .next t ∧ t.Inv ∧ t.phase = nextPhase s.capAnswer s.phase ∧ quietRst k t := by
  obtain ⟨hr, hrest⟩ := quietRst_succ hq
  obtain ⟨t, hstep, ht, hphase⟩ := h.step_of_noRst hr
  have hexec := (step_of_noIssue hr h.noIssue).symm.trans hstep
  exact ⟨t, hstep, ht, hphase, hrest.congr (exec_keeps_rst hexec)⟩

theorem run_of_step {s t : State} (h : step s = .next t) (k : Nat) :
    Host.Core.run Sys2Proof.core (k + 1) s = Host.Core.run Sys2Proof.core k t := by
  have hstep : Host.Core.step Sys2Proof.core s = .next t := h
  simp only [Host.Core.run, hstep]

/-- A step without reset in HALT samples `rst`, and that is all (R100). -/
theorem step_of_halt {s : State} (hp : s.phase = .halt) (hi : s.issue = none) (hr : s.rstAnswer = none) :
    step s = .next (fetched s) := by
  rw [step_of_noIssue hr hi, hp]
  rfl

/-- Settles O15: the second clause by induction on the number of steps. -/
theorem haltIsAbsorbing : Obligations.HaltIsAbsorbing := by
  refine ⟨fun _ => rfl, fun k => ?_⟩
  induction k with
  | zero => exact fun s _ _ _ => ⟨s, rfl, rfl⟩
  | succ k ih =>
    intro s hp hi hq
    obtain ⟨hr, hrest⟩ := quietRst_succ hq
    obtain ⟨t, hrun, ht⟩ := ih (fetched s) hp rfl hrest
    refine ⟨t, (run_of_step (step_of_halt hp hi hr) k).trans hrun, ht.trans ?_⟩
    simp only [fetched, tookRst, hi]

/-- Settles O54: four quiet steps, along the table. -/
theorem fourStepsMakeACycle : Obligations.FourStepsMakeACycle := by
  intro s h hp hq
  obtain ⟨a, hsa, ha, hpa, hqa⟩ := h.step_of_quietRst hq
  obtain ⟨b, hab, hb, hpb, hqb⟩ := ha.step_of_quietRst hqa
  obtain ⟨c, hbc, hc, hpc, hqc⟩ := hb.step_of_quietRst hqb
  obtain ⟨t, hct, -, hpt, -⟩ := hc.step_of_quietRst hqc
  rw [hp] at hpa
  rw [hpa] at hpb
  rw [hpb] at hpc
  rw [hpc] at hpt
  refine ⟨a, b, c, t, hsa, hab, hbc, hct, hpa, hpb, hpc, hpt, ?_⟩
  rw [run_of_step hsa, run_of_step hab, run_of_step hbc, run_of_step hct]
  rfl

end Sys2Proof.Machine
end

section
/-!
PROOF of O6, O7 and O51. Reset puts every register at its value of R117, with which the invariant begins; it keeps the
peripherals and the environment as the actions before it left them, none of which touches the parameters or port `rst`
(R116).
-/

namespace Sys2Proof.Machine

/-! ### The values after reset (R117) -/

/-- Settles O6: each register by its definition, the rings and the register files entry by entry. -/
theorem resetRegistersHoldTheirValues : Obligations.ResetRegistersHoldTheirValues := fun _ _ _ =>
  ⟨rfl, rfl, rfl, rfl, rfl, rfl, List.length_replicate, fun _ => List.eq_of_mem_replicate, rfl, rfl,
    List.length_replicate, fun _ => List.eq_of_mem_replicate, rfl, rfl, ChannelFile.get_all _, ChannelFile.get_all _,
    rfl⟩

/-- Peripherals at level 0 agree with the reset lights, all Off (R121). -/
theorem levelsAgree_resetWith {p : Params} {d : Devices} {e : Env} (h : d.level = ChannelFile.all 0) :
    levelsAgree (State.resetWith p d e) := fun c => by
  rw [resetWith_dev, h, resetWith_ls, ChannelFile.get_all, ChannelFile.get_all]
  rfl

/-- Settles O51: `State.reset` is one of the machines right after reset, with quiet peripherals. -/
theorem invariantHoldsAtReset : Obligations.InvariantHoldsAtReset :=
  ⟨resetWith_inv _ _ _, levelsAgree_resetWith rfl, resetWith_inv⟩

/-! ### A step with reset (R116) -/

/-- No action changes the parameters (R5). -/
theorem Primitive.keeps_par {a : Action} (h : Primitive a) (s : State) : (a s).par = s.par := by
  cases h with
  | filterCs => unfold Machine.filterCs adopt; split <;> rfl
  | turn => rw [turn_par]
  | driveBy => rw [driveBy_eq_turn, turn_par]
  | waitPeriod => unfold Machine.waitPeriod; split <;> rfl
  | writeCfg => unfold Machine.writeCfg; split <;> rfl
  | _ => rfl

theorem primitive_pendingActions (s : State) : ∀ a ∈ pendingActions s, Primitive a := by
  unfold pendingActions
  split
  · exact primitive_actions _ _
  · exact List.forall_mem_nil _

/-- What every action keeps, the actions before a reset keep. -/
theorem perform_take_pendingActions_keeps {α : Type} (f : State → α)
    (hf : ∀ a : Action, Primitive a → ∀ s, f (a s) = f s) (n : Nat) (s : State) :
    f (perform ((pendingActions s).take n) (fetched s)) = f (fetched s) :=
  perform_take_keeps f (fun a ha => hf a (primitive_pendingActions s a ha)) n (fetched s)

/-- Settles O7: the actions before the reset keep the parameters and port `rst`; where there are none, the peripherals
and the environment are as the fetch left them. -/
theorem resetWipesTheBlock : Obligations.ResetWipesTheBlock := by
  intro s n hr
  refine ⟨?_, _, rfl, ?_, ?_⟩
  · rintro rfl
    exact step_of_rst hr
  · exact perform_take_pendingActions_keeps (·.env.rst) (fun _ ha => ha.keeps_rst) n s
  · have hpar := perform_take_pendingActions_keeps State.par (fun _ ha => ha.keeps_par) n s
    rw [step_of_rst hr, resetInside, applyReset, hpar, fetched_par]

end Sys2Proof.Machine
end

section
/-!
PROOF of O22. Of two successive samples the earlier one is in the window of the later (R60, R62).
-/

namespace Sys2Proof.Machine

/-- A signal without two equal successive samples moves `STABLE` with its first sample at most: the next one finds it in
the window. -/
theorem fed_stable_of_isChain_ne {s : State} (h : ringOk .cs s = true) (hM : 2 ≤ s.par.consensusM) {x : Sample}
    {xs : List Sample} (hne : List.IsChain (fun a b => a ≠ b) (x :: xs)) :
    (fed (x :: xs) s).stable = (fed [x] s).stable := by
  induction xs generalizing s x with
  | nil => rfl
  | cons y ys ih =>
    obtain ⟨hxy, hrest⟩ := List.isChain_cons_cons.1 hne
    calc (fed (x :: y :: ys) s).stable
        = (fed [y] (filterSample s x)).stable :=
          ih (filterSample_keeps_ringOk h x) (by rwa [filterSample_par h]) hrest
      _ = (fed [x] s).stable := fed_concat_stable (xs := []) h hM hxy

/-- Settles O22: where the ring is in form, both runs are the filter's. -/
theorem jitterNeverLocks : Obligations.JitterNeverLocks := fun _ _ _ h hM hne =>
  ⟨_, _, feed_eq_fed h _, feed_eq_fed h _, fed_stable_of_isChain_ne h hM hne⟩

end Sys2Proof.Machine
end

section
/-!
PROOF of O48. Under `per_channel` each blinker follows a deadline of its own, here after the left one has blinked alone
(R93, R129).
-/

namespace Sys2Proof.Machine

/-- The parameters of 95_test_vectors, with one timer per channel. -/
def perChannelParams : Params :=
  ⟨{ Config.defaultRecord with maN := 4, timerMode := .perChannel, blinkInterval := 500 }, by decide⟩

/-- Before the APPLY of the first hazard word, at time 1800. The left blinker has blinked alone, On at 1000 and Off at
1500; the right one's timer is still at its reset value. The width is one of bucket 9, whose word is hazard. -/
def afterLeftAlone : State :=
  { State.resetWith perChannelParams Devices.quiet { Env.unscripted with now := ⟨[1800, 1800], 0⟩ } with
    phase := .apply
    csBuf := List.replicate 4 1201
    stable := 1201
    width := 1201
    id := 9
    cfg := 0b001100
    ls := { ChannelFile.all LightState.off with frontBlue := .on }
    bt := { ChannelFile.all BlinkTimer.reset with left := ⟨2000, false⟩ } }

theorem afterLeftAlone_inv : afterLeftAlone.Inv :=
  { resetWith_inv perChannelParams Devices.quiet { Env.unscripted with now := ⟨[1800, 1800], 0⟩ } with
    rings := by decide
    idleCs := nofun
    widthBound := by decide
    filtered := nofun
    decoded := fun _ => by decide
    cfgLegal := fun _ => by decide
    neverHigh := by decide
    frontBlueOn := fun _ _ => rfl
    fresh := nofun
    halted := nofun
    running := fun _ => rfl
    idleTimers := ⟨rfl, rfl, rfl, rfl⟩ }

/-- Settles O48: the hazard APPLY finds the left deadline ahead, and leaves its lamp Off, and the right one passed, and
lights its lamp. -/
theorem perChannelTimersCanDrift : Obligations.PerChannelTimersCanDrift := by
  refine ⟨afterLeftAlone, _, afterLeftAlone_inv, rfl, rfl, rfl, exec_apply afterLeftAlone, ?_⟩
  generalize ht : goto .sample _ = t
  have hleft : t.ls.left = .off := by rw [← ht]; decide
  have hright : t.ls.right = .on := by rw [← ht]; decide
  rw [hleft, hright]
  nofun

end Sys2Proof.Machine
end

section
/-!
PROOF of O55. The invariant names what the registers hold along a cycle of the consensus filter: with `STABLE` at 0 the
configuration word that APPLY finds is 0, which asks for the lights of a dark state (R60, R66 to R68, R119).
-/

namespace Sys2Proof.Machine

/-! ### The four operations of a cycle (R97) -/

/-- A quiet step from a known phase runs the operation of the phase, and leaves a quiet state that meets the invariant
at the next phase. -/
theorem State.Inv.exec_of_quietRst {s : State} (h : s.Inv) {k : Nat} (hq : quietRst (k + 1) s) {mode : FilterMode}
    (hm : s.par.filterMode = mode) {p : Phase} (hp : s.phase = p) :
    ∃ t : State, step s = .next t ∧ exec (phaseInstr mode p) (Machine.fetched s) = .next t ∧ t.Inv ∧
      t.par = s.par ∧ t.phase = nextPhase s.capAnswer p ∧ quietRst k t := by
  obtain ⟨t, hstep, ht, hphase, hrest⟩ := h.step_of_quietRst hq
  have hexec := (step_of_noIssue (quietRst_succ hq).1 h.noIssue).symm.trans hstep
  obtain ⟨hpar, -⟩ := eachRegisterHasItsWriters _ _ _ hexec
  rw [hm, hp] at hexec
  rw [hp] at hphase
  exact ⟨t, hstep, hexec, ht, hpar, hphase, hrest⟩

/-- Under `consensus` a cycle without reset is SAMPLE, FILTER.CS, DECODE and APPLY, and the invariant holds before
DECODE and before APPLY. -/
theorem State.Inv.consensusCycle {s t : State} (h : s.Inv) (hp : s.phase = .sample) (hq : quietRst 4 s)
    (hm : s.par.filterMode = .consensus) (hrun : Host.Core.run Sys2Proof.core 4 s = .next t) :
    ∃ a b c : State,
      exec .sample (Machine.fetched s) = .next a ∧ exec .filterCs (Machine.fetched a) = .next b ∧
      exec .decode (Machine.fetched b) = .next c ∧ exec .apply (Machine.fetched c) = .next t ∧
      (b.Inv ∧ b.phase = .decode ∧ b.par = s.par) ∧ (c.Inv ∧ c.phase = .apply ∧ c.par = s.par) := by
  obtain ⟨a, hsa, hsample, ha, hpa, hphase, hq⟩ := h.exec_of_quietRst hq hm hp
  obtain ⟨b, hab, hfilter, hb, hpb, hphaseb, hq⟩ := ha.exec_of_quietRst hq (hpa ▸ hm) hphase
  have hpb := hpb.trans hpa
  obtain ⟨c, hbc, hdecode, hc, hpc, hphasec, hq⟩ := hb.exec_of_quietRst hq (hpb ▸ hm) hphaseb
  have hpc := hpc.trans hpb
  obtain ⟨u, hcu, happly, -⟩ := hc.exec_of_quietRst hq (hpc ▸ hm) hphasec
  rw [run_of_step hsa, run_of_step hab, run_of_step hbc, run_of_step hcu] at hrun
  cases hrun
  exact ⟨a, b, c, hsample, hfilter, hdecode, happly, ⟨hb, hphaseb, hpb⟩, hc, hphasec, hpc⟩

/-! ### What stays dark -/

/-- The lights, the timers and the level writes are the same. -/
def SameLights (s t : State) : Prop := t.ls = s.ls ∧ t.bt = s.bt ∧ levelTrace t.ev = levelTrace s.ev

theorem SameLights.trans {s t u : State} : SameLights s t → SameLights t u → SameLights s u
  | ⟨hls, hbt, hev⟩, ⟨kls, kbt, kev⟩ => ⟨kls.trans hls, kbt.trans hbt, kev.trans hev⟩

/-- The fetch changes none of them. -/
theorem SameLights.of_fetched {s t : State} (h : SameLights (fetched s) t) : SameLights s t := h

/-- The operations upstream of the rule engine have nothing to do with the lights (R38). -/
theorem sameLights_of_exec_upstream {i : Instr} (hi : Upstream i) {s t : State} (h : exec i s = .next t) :
    SameLights s t := by
  have hf := exec_footprint h
  rcases hi with rfl | rfl | rfl | rfl
  case inl =>
    rw [sampleMeasuresOnce] at h
    cases h
    exact ⟨rfl, rfl, by simp [levelTrace, Event.isLevelWrite]⟩
  all_goals
    simp only [Footprint] at hf
    rw [hf]
    exact ⟨rfl, rfl, rfl⟩

/-- APPLY of settled lights, while no timer is reached, changes no light and no timer and writes no level. -/
theorem sameLights_of_exec_apply {s t : State} (h : Settled s) (hstay : noToggle s = true)
    (hexec : exec .apply s = .next t) : SameLights s t := by
  have hsilent := perform_blinkersActions_of_settled h hstay
  rw [exec_apply, perform_slotActions, applySteady_of_settled h, hsilent] at hexec
  cases hexec
  exact ⟨rfl, rfl, rfl⟩

/-- With configuration 0 a dark state is settled. -/
theorem settled_of_dark {s : State} (hls : s.ls = { ChannelFile.all LightState.off with frontBlue := .on })
    (hcfg : s.cfg = 0) : Settled s := by
  intro c
  unfold slotLight
  rw [hls, hcfg]
  cases c <;> rfl

/-- With configuration 0 no timer is evaluated (R90). -/
theorem noToggle_of_cfg_zero {s : State} (hcfg : s.cfg = 0) : noToggle s = true := by
  rw [noToggle, hcfg]
  rfl

/-- Before APPLY, a clamped index of at most 0 is configuration 0 (R67, R68). -/
theorem State.Inv.cfg_zero {s : State} (h : s.Inv) (hp : s.phase = .apply) (hclamp : s.par.clampId = true)
    (hraw : idRaw s.par s.width ≤ 0) : s.cfg = 0 := by
  obtain ⟨-, hcfg⟩ := h.decoded hp
  rw [hcfg hclamp, clamp_of_le hraw (by decide)]
  rfl

/-- Settles O55: neither DECODE nor APPLY changes `STABLE`, so it is already 0 when FILTER.CS writes the width. -/
theorem nothingIsLitBeforeConsensus : Obligations.NothingIsLitBeforeConsensus := by
  intro s t h hp hq hm hclamp hraw hdark hrun hstable
  obtain ⟨a, b, c, hsample, hfilter, hdecode, happly, ⟨hb, hpb, hparb⟩, hc, hpc, hparc⟩ :=
    h.consensusCycle hp hq hm hrun
  obtain ⟨-, -, hwidthc, -, -, hcsc, -⟩ := eachRegisterHasItsWriters _ _ _ hdecode
  obtain ⟨-, -, -, hcfgt, -, hcst, -⟩ := eachRegisterHasItsWriters _ _ _ happly
  obtain ⟨-, -, hstablec⟩ := hcsc nofun
  obtain ⟨-, -, hstablet⟩ := hcst nofun
  obtain ⟨-, hcfgt⟩ := hcfgt nofun
  have hwidth : c.width = 0 := by
    have hfiltered := hb.filtered hpb
    rw [hparb, hm] at hfiltered
    calc c.width = b.stable.toNat := (hwidthc nofun nofun).trans hfiltered
      _ = t.stable.toNat := congrArg BitVec.toNat (hstablet.trans hstablec).symm
      _ = 0 := by rw [hstable]; rfl
  have hcfg : c.cfg = 0 := hc.cfg_zero hpc (by rwa [hparc]) (by rwa [hparc, hwidth])
  have hsampled : SameLights s a := (sameLights_of_exec_upstream (.inl rfl) hsample).of_fetched
  have hfiltered : SameLights a b := (sameLights_of_exec_upstream (.inr (.inl rfl)) hfilter).of_fetched
  have hdecoded : SameLights b c := (sameLights_of_exec_upstream (.inr (.inr (.inr rfl))) hdecode).of_fetched
  have hbefore : SameLights s c := (hsampled.trans hfiltered).trans hdecoded
  have hlsc : c.ls = s.ls := hbefore.1
  have hsettled : Settled (fetched c) := settled_of_dark (hlsc.trans hdark) hcfg
  have hsilent : SameLights c t := (sameLights_of_exec_apply hsettled (noToggle_of_cfg_zero hcfg) happly).of_fetched
  obtain ⟨hls, hbt, hev⟩ : SameLights s t := hbefore.trans hsilent
  exact ⟨hls, hbt, hcfgt.trans hcfg, hev⟩

end Sys2Proof.Machine
end
